-- ==== Sys2Proof/Word.lean ====
section
/-! DEFINITION. The word types of the sensor-link block: bytes, 16-bit command codes and arguments, and the 32-bit
binary32 patterns (spec/00_scope.md section 5, spec/10_state.md R11). -/

namespace Sys2Proof

/-- The only addressable unit: 8 bits (spec/20_memory.md R41). -/
abbrev Byte := BitVec 8

/-- A command code or an argument: 16 bits (spec/10_state.md R14). -/
abbrev Half := BitVec 16

/-- A binary32 bit pattern (spec/10_state.md R22). -/
abbrev Word32 := BitVec 32

end Sys2Proof
end

