-- ==== Sys2Proof/Config.lean ====
section
/-! DEFINITION. The block's parameters as ONE configuration record (spec/00_scope.md R2) and the free values: constants
with no body, about which nothing can be proved (notes/assumptions 3, 4, 5, 10, 16, 17, 20, 21, 28). -/

namespace Sys2Proof

/-- The parameters of spec/00_scope.md R2, one field each. `ADDR_BYTE` is derived from `devAddr7` (`Config.addrByte`). -/
structure Config.Params where
  crcWidth            : Nat
  crcInit             : Byte
  crcPoly             : Byte
  crcRounds           : Nat
  devAddr7            : BitVec 7
  timeoutMs           : Nat
  cmdStartMeasurement : Half
  cmdSetInterval      : Half
  cmdCalibrate        : Half
  cmdReadMeasurements : Half
  readLen             : BitVec 5
  offsetCo2           : Nat
  offsetTemp          : Nat
  offsetHum           : Nat
  txCap               : Nat
  rxCap               : Nat
  deriving DecidableEq, Repr

/-- The values of R2. `offsetCo2`, `offsetTemp`, `offsetHum` are `FLOAT_OFFSETS`, kept as the source writes them
(spec/90_conflicts.md C1). -/
def Config.params : Config.Params where
  crcWidth            := 8
  crcInit             := 0xFF#8
  crcPoly             := 0x31#8
  crcRounds           := 8
  devAddr7            := 0x61#7
  timeoutMs           := 50
  cmdStartMeasurement := 0x0010#16
  cmdSetInterval      := 0x4600#16
  cmdCalibrate        := 0x5204#16
  cmdReadMeasurements := 0x0300#16
  readLen             := 18#5
  offsetCo2           := 0
  offsetTemp          := 6
  offsetHum           := 12
  txCap               := 5
  rxCap               := 18

/-- `ADDR_BYTE`: the 7-bit device address shifted left by one bit, 8 bits (R2, spec/30_encoding.md R69). -/
def Config.addrByte : Byte := (Config.params.devAddr7.setWidth 8) <<< 1

/-- A calendar date and time, as the host's wall clock shows it (spec/45_host_polling_worker.md R148). -/
structure Config.DateTime where
  year   : Nat
  month  : Nat
  day    : Nat
  hour   : Nat
  minute : Nat
  second : Nat
  deriving DecidableEq, Repr, Inhabited

/-! Free values. Each is applied to the draw counter of `State` (`State.draws`) or to a fixed index, and is otherwise
unconstrained: a `draw` of spec/00_scope.md section 5. -/

/-- An unspecified buffer byte (spec/42_bus_transport.md R110), or a received byte the environment's answer leaves out. -/
opaque Config.freeByte : Nat → Byte

/-- The unspecified value of a 16-bit register that holds no value (spec/10_state.md R26). -/
opaque Config.freeHalf : Nat → Half

/-- The unspecified value of a float register (spec/10_state.md R26, spec/43_sensor_commands.md R131). -/
opaque Config.freeWord : Nat → Word32

/-- Whether a transfer completes within the bound, where the environment's answer is not scripted
(spec/93_implementation_defined.md U7). -/
opaque Config.freeCompleted : Nat → Bool

/-- How many bytes of a transfer the target took before the block abandoned it (spec/42_bus_transport.md R111). -/
opaque Config.freeCount : Nat → Nat

/-- Whether a calibration request that arrives between the worker's read of the field and its reset survives
(spec/93_implementation_defined.md U18). -/
opaque Config.freeKeep : Nat → Bool

/-- The host's wall clock (spec/45_host_polling_worker.md R148): no law. -/
opaque Config.wallClock : Nat → Config.DateTime

/-- `LATEST_SAMPLE_INIT`, the open fields of the initial invalid placeholder (spec/92_eei_decisions.md D29). -/
opaque Config.initCo2 : Word32
opaque Config.initTemp : Word32
opaque Config.initHum : Word32
opaque Config.initTimestamp : String

/-- `TS_PAD_MINSEC`: whether minute and second are padded to two digits (spec/92_eei_decisions.md D30). -/
opaque Config.tsPadMinsec : Bool

/-- Whether the placeholder that stands before the first publication is forwarded to the log
(spec/45_host_polling_worker.md R164 has no such test). -/
opaque Config.logsPlaceholder : Bool

/-- How a float is printed in a log record: not stated (spec/91_not_in_source.md N24). -/
opaque Config.printFloat : Word32 → String

/-- `F_CLK_HZ` and `F_SCL_HZ`, the open clock rates of spec/00_scope.md section 4; no rule depends on either. -/
opaque Config.fClkHz : Nat
opaque Config.fSclHz : Nat

end Sys2Proof
end

