-- ==== Sys2Proof/Syntax.lean ====
section
/-! DEFINITION. The instructions: the eight operations a host requests (spec/30_encoding.md R60, format OP) and the four
command frames the block puts on the bus (R64, R65, R67, formats N and A), one constructor per row of
spec/opcode_table.json; and the request interface's operand ports (R61). -/

namespace Sys2Proof

/-- One constructor per row of the opcode table, operands as plain values. -/
inductive Instr where
  /-- `CRC8 data` (R84): `data` of any length. -/
  | crc8 (data : List Byte)
  /-- `DECODE_FLOAT off` (R92): a 5-bit byte offset into `RX`. -/
  | decodeFloat (off : BitVec 5)
  /-- `BUS_WRITE data` (R112). -/
  | busWrite (data : List Byte)
  /-- `BUS_WRITE_THEN_READ data, read_len` (R113). -/
  | busWriteThenRead (data : List Byte) (readLen : BitVec 5)
  /-- `START_MEASUREMENT` (R124). -/
  | startMeasurement
  /-- `SET_INTERVAL interval_seconds` (R125). -/
  | setInterval (arg : Half)
  /-- `CALIBRATE reference_ppm` (R126). -/
  | calibrate (arg : Half)
  /-- `READ_MEASUREMENTS` (R127). -/
  | readMeasurements
  /-- The format N frame `00 10` on the bus (R64, R67). -/
  | wireStartMeasurement
  /-- The format N frame `03 00` on the bus (R64, R67). -/
  | wireReadMeasurements
  /-- The format A frame `46 00 arg_hi arg_lo crc` on the bus (R65, R67); the fifth byte is a field of its own, because a
  raw write may carry any byte there (R71). -/
  | wireSetInterval (arg : Half) (crc : Byte)
  /-- The format A frame `52 04 arg_hi arg_lo crc` on the bus (R65, R67). -/
  | wireCalibrate (arg : Half) (crc : Byte)
  deriving DecidableEq, Repr

/-- The operand ports of the request interface (R61): plain values beside the operation-select code. -/
structure Ports where
  arg     : Half
  off     : BitVec 5
  data    : List Byte
  readLen : BitVec 5
  deriving DecidableEq, Repr

/-- A request in format OP (R61): the 3-bit operation-select code and the operand ports. -/
structure Request where
  op    : BitVec 3
  ports : Ports
  deriving DecidableEq, Repr

end Sys2Proof
end

