-- ==== Sys2Proof/Machine/Operands.lean ====
section
/-! DEFINITION. Operand forms: how a 16-bit value is split into and assembled from bytes (spec/20_memory.md R42,
spec/30_encoding.md R66), and which operand lengths are legal (spec/42_bus_transport.md R101). -/

namespace Sys2Proof.Machine

/-- `v[15:8]` (R66). -/
def hiByte (v : Half) : Byte := v.extractLsb' 8 8

/-- `v[7:0]` (R66). -/
def loByte (v : Half) : Byte := v.extractLsb' 0 8

/-- `{hi, lo}`: a 16-bit value from its bytes, high byte first (R42). -/
def joinBytes (hi lo : Byte) : Half := hi ++ lo

/-- The two argument bytes of a format A frame, high byte first (R65, R66). -/
def argBytes (arg : Half) : List Byte := [hiByte arg, loByte arg]

/-- A raw write carries 1 to `TX_CAP` bytes (R101). -/
def legalWriteLength (data : List Byte) : Bool :=
  decide (1 ≤ data.length) && decide (data.length ≤ Config.params.txCap)

/-- A raw read asks for 1 to `RX_CAP` bytes (R101). -/
def legalReadLength (n : BitVec 5) : Bool :=
  decide (1 ≤ n.toNat) && decide (n.toNat ≤ Config.params.rxCap)

/-- The command code a command operation latches (R67); none for the primitives and the frames themselves. -/
def commandCode : Instr → Option Half
  | .startMeasurement => some Config.params.cmdStartMeasurement
  | .setInterval _    => some Config.params.cmdSetInterval
  | .calibrate _      => some Config.params.cmdCalibrate
  | .readMeasurements => some Config.params.cmdReadMeasurements
  | .crc8 _ | .decodeFloat _ | .busWrite _ | .busWriteThenRead _ _ => none
  | .wireStartMeasurement | .wireReadMeasurements | .wireSetInterval _ _ | .wireCalibrate _ _ => none

/-- How many bytes the transaction of an operation reads after its write: `read_len` of `BUS_WRITE_THEN_READ` (R113),
`READ_LEN` of `READ_MEASUREMENTS` (R127), 0 for a pure write. -/
def opReadLen : Instr → Nat
  | .busWriteThenRead _ n => n.toNat
  | .readMeasurements     => Config.params.readLen.toNat
  | .crc8 _ | .decodeFloat _ | .busWrite _ | .startMeasurement | .setInterval _ | .calibrate _ => 0
  | .wireStartMeasurement | .wireReadMeasurements | .wireSetInterval _ _ | .wireCalibrate _ _ => 0

end Sys2Proof.Machine
end

