-- ==== Sys2Proof/Decode.lean ====
section
/-! DEFINITION. Decoding and encoding. A request is an operation-select code and operand ports (spec/30_encoding.md R61,
R63); a frame is the byte sequence on the bus (R64, R65, R67, R68). Both decoders are total; a byte sequence that is no
command frame is rejected by name. -/

namespace Sys2Proof

/-- What can be decoded: a request at the host's interface, or the bytes of a frame. -/
inductive Code where
  | request (r : Request)
  | frame (bytes : List Byte)
  deriving DecidableEq, Repr

/-- Why a byte sequence is no command frame. -/
inductive DecodeError where
  /-- Fewer than the two bytes of a command code. -/
  | truncated
  /-- The first two bytes are none of the four command codes of R67. -/
  | unknownCommand
  /-- A known command code, but not the length R68 gives it. -/
  | wrongLength
  deriving DecidableEq, Repr

/-- The operation a request selects: the eight codes of R63, every code assigned. -/
def decodeRequest (r : Request) : Instr :=
  match r.op.getLsbD 2, r.op.getLsbD 1, r.op.getLsbD 0 with
  | false, false, false => .crc8 r.ports.data
  | false, false, true  => .decodeFloat r.ports.off
  | false, true,  false => .busWrite r.ports.data
  | false, true,  true  => .busWriteThenRead r.ports.data r.ports.readLen
  | true,  false, false => .startMeasurement
  | true,  false, true  => .setInterval r.ports.arg
  | true,  true,  false => .calibrate r.ports.arg
  | true,  true,  true  => .readMeasurements

/-- The length a frame has by its command code (R68); none for a code outside R67. -/
def frameLength (code : Half) : Option Nat :=
  if code = Config.params.cmdStartMeasurement ∨ code = Config.params.cmdReadMeasurements then some 2
  else if code = Config.params.cmdSetInterval ∨ code = Config.params.cmdCalibrate then some 5
  else none

/-- The error of a byte sequence that starts with a command code but is no frame. -/
def frameError (code : Half) : DecodeError :=
  if (frameLength code).isSome then .wrongLength else .unknownCommand

/-- The frame a byte sequence is (R64, R65, R67). The CRC byte is read, not checked. -/
def decodeFrame : List Byte → Except DecodeError Instr
  | [] | [_] => .error .truncated
  | [c1, c0] =>
    if Machine.joinBytes c1 c0 = Config.params.cmdStartMeasurement then .ok .wireStartMeasurement
    else if Machine.joinBytes c1 c0 = Config.params.cmdReadMeasurements then .ok .wireReadMeasurements
    else .error (frameError (Machine.joinBytes c1 c0))
  | [c1, c0, a1, a0, crc] =>
    if Machine.joinBytes c1 c0 = Config.params.cmdSetInterval then
      .ok (.wireSetInterval (Machine.joinBytes a1 a0) crc)
    else if Machine.joinBytes c1 c0 = Config.params.cmdCalibrate then
      .ok (.wireCalibrate (Machine.joinBytes a1 a0) crc)
    else .error (frameError (Machine.joinBytes c1 c0))
  | c1 :: c0 :: _ => .error (frameError (Machine.joinBytes c1 c0))

def decode : Code → Except DecodeError Instr
  | .request r   => .ok (decodeRequest r)
  | .frame bytes => decodeFrame bytes

/-- What drives the operand ports that an encoding gives no bits: the least operand R101 calls legal, one byte of zeros to
write and one byte to read, and zero elsewhere (DESIGN CHOICE, notes/assumptions/7). An operation ignores the ports it
does not use (R61). -/
def Ports.least : Ports := { arg := 0, off := 0, data := [0], readLen := 1 }

/-- A format N frame: the command code, high byte first (R64). -/
def frameN (code : Half) : List Byte := [Machine.hiByte code, Machine.loByte code]

/-- A format A frame: command code, argument, CRC byte (R65). -/
def frameA (code arg : Half) (crc : Byte) : List Byte :=
  [Machine.hiByte code, Machine.loByte code, Machine.hiByte arg, Machine.loByte arg, crc]

/-- The encoding of an instruction, from the tables of R63 and R67. -/
def encode : Instr → Code
  | .crc8 data               => .request ⟨0b000#3, { Ports.least with data := data }⟩
  | .decodeFloat off         => .request ⟨0b001#3, { Ports.least with off := off }⟩
  | .busWrite data           => .request ⟨0b010#3, { Ports.least with data := data }⟩
  | .busWriteThenRead data n => .request ⟨0b011#3, { Ports.least with data := data, readLen := n }⟩
  | .startMeasurement        => .request ⟨0b100#3, Ports.least⟩
  | .setInterval arg         => .request ⟨0b101#3, { Ports.least with arg := arg }⟩
  | .calibrate arg           => .request ⟨0b110#3, { Ports.least with arg := arg }⟩
  | .readMeasurements        => .request ⟨0b111#3, Ports.least⟩
  | .wireStartMeasurement    => .frame (frameN Config.params.cmdStartMeasurement)
  | .wireReadMeasurements    => .frame (frameN Config.params.cmdReadMeasurements)
  | .wireSetInterval arg crc => .frame (frameA Config.params.cmdSetInterval arg crc)
  | .wireCalibrate arg crc   => .frame (frameA Config.params.cmdCalibrate arg crc)

/-- The requests (none or one) that ask for an operation. -/
def requestFor (i : Instr) : List Request :=
  match encode i with
  | .request r => [r]
  | .frame _   => []

/-- `n` bytes of a number, most significant first: the first transmitted bit is the leftmost (spec/opcode_table.json). -/
def bytesOfNat (n w : Nat) : List Byte :=
  (List.range n).map fun k => BitVec.ofNat 8 (w >>> (8 * (n - 1 - k)))

/-- The code a word of the opcode table stands for: up to 8 bits a request in format OP, more a frame. -/
def tableCode (nbits w : Nat) : Option Code :=
  if nbits ≤ 8 then
    if w < 8 then some (.request ⟨BitVec.ofNat 3 w, Ports.least⟩) else none
  else if w < 2 ^ nbits then some (.frame (bytesOfNat (nbits / 8) w))
  else none

/-- The instruction the decoder reads from a word numbered as spec/opcode_table.json numbers it. -/
def decodeTableWord (nbits w : Nat) : Option Instr :=
  match tableCode nbits w with
  | some c => match decode c with
    | .ok i    => some i
    | .error _ => none
  | none => none

end Sys2Proof
end

