-- ==== Sys2Proof/Machine/Crc.lean ====
section
/-! DEFINITION. The CRC-8 checksum generator as a pure function (spec/40_crc8.md R80 to R82), and its byte-parallel form
(R85), which is stated equal to it. -/

namespace Sys2Proof.Machine

/-- One round (R81): the top bit tested is bit 7 before the shift; the bit shifted out is lost. -/
def crcRound (a : Byte) : Byte :=
  if a.getLsbD 7 then (a <<< 1) ^^^ Config.params.crcPoly else a <<< 1

/-- `n` rounds in a row. -/
def crcRounds : Nat → Byte → Byte
  | 0,     a => a
  | n + 1, a => crcRounds n (crcRound a)

/-- One byte step (R82): the whole byte is XORed in, then eight rounds. -/
def crcByte (a b : Byte) : Byte := crcRounds Config.params.crcRounds (a ^^^ b)

/-- `crc8(s)` (R80): the bytes in sequence order, from `CRC_INIT`. -/
def crc8 (s : List Byte) : Byte := s.foldl crcByte Config.params.crcInit

/-- The CRC trailer of a format A frame: the checksum of the two argument bytes alone (spec/30_encoding.md R65). -/
def argCrc (arg : Half) : Byte := crc8 (argBytes arg)

/-- The bits of `T[x]` as R85 gives them, bit 0 first. -/
def crcParallelBits (x : Byte) : List Bool :=
  let b := x.getLsbD
  [ (b 0 ^^ b 3) ^^ (b 4 ^^ b 6),
    (b 1 ^^ b 4) ^^ (b 5 ^^ b 7),
    (b 2 ^^ b 5) ^^ b 6,
    (b 3 ^^ b 6) ^^ b 7,
    (b 0 ^^ b 3) ^^ (b 6 ^^ b 7),
    (b 0 ^^ b 1) ^^ ((b 3 ^^ b 6) ^^ b 7),
    (b 1 ^^ b 2) ^^ (b 4 ^^ b 7),
    (b 2 ^^ b 3) ^^ b 5 ]

/-- `T[x]`, the byte-parallel form of eight rounds (R85). -/
def crcParallel (x : Byte) : Byte := BitVec.ofNat 8 ((crcParallelBits x).foldr (fun b n => b.toNat + 2 * n) 0)

end Sys2Proof.Machine
end

