-- ==== Sys2Proof/Machine/State.lean ====
section
/-! DEFINITION. The state: the block's registers, buffers and flags (spec/10_state.md R11), the operation in progress, the
request interface, the environment's answers and the record of what the bus carried (spec/42_bus_transport.md R102, R111),
and the host: the Polling Worker and its consumer (spec/45_host_polling_worker.md R140). Plain data throughout. -/

namespace Sys2Proof.Machine

/-- The sequencer's six phases (R12). -/
inductive Phase where
  | idle
  | encode
  | acquire
  | transfer
  | release
  | decode
  deriving DecidableEq, Repr

/-- A byte buffer: (address, byte) cells with strictly rising addresses; an unlisted address holds no value
(spec/10_state.md R27, spec/20_memory.md R40). The operations are in Machine/Memory.lean. -/
abbrev Memory := List Host.Cell

/-- The environment's answer to one transfer (R102): whether it completed within the bound, the bytes the target
returned, and, if it did not complete, how many bytes the target took (R111). -/
structure Answer where
  completed : Bool
  rxdata    : List Byte
  taken     : Nat
  deriving DecidableEq, Repr

/-- The outcome of the transfer in progress, held from the end of `TRANSFER` to `RELEASE` (R108). -/
structure Latch where
  completed : Bool
  rxdata    : List Byte
  deriving DecidableEq, Repr

/-- What one transfer put on the bus and what the target got of it (R106, R109, R111). -/
structure Transaction where
  address   : Byte
  written   : List Byte
  readLen   : Nat
  completed : Bool
  received  : List Byte
  deriving DecidableEq, Repr

/-- A Sample (R140). -/
structure Sample where
  co2       : Word32
  temp      : Word32
  hum       : Word32
  timestamp : String
  valid     : Bool
  deriving DecidableEq, Repr

/-- The initial `latest_sample`: an invalid placeholder whose other fields are open (spec/92_eei_decisions.md D29). -/
def Sample.placeholder : Sample :=
  { co2 := Config.initCo2, temp := Config.initTemp, hum := Config.initHum, timestamp := Config.initTimestamp,
    valid := false }

/-- Where the worker's loop thread stands (R141, R143, R147, R166). -/
inductive WorkerPos where
  /-- No loop thread: before `start()`, and after the thread has exited. -/
  | stopped
  | sendStart
  | sendInterval
  /-- Between iterations: the only place where `running` is tested (R159). -/
  | top
  | sendRead
  | copyOut
  | publish
  | calibrate
  | clearPending
  | sleep
  deriving DecidableEq, Repr

/-- The Polling Worker: the Worker State of R140 and the position and local variables of its loop thread. -/
structure Worker where
  intervalMs         : Nat
  running            : Bool
  latestSample       : Sample
  hasUnread          : Bool
  /-- 0 means no request (R140, R150). -/
  pendingCalibration : Half
  pos                : WorkerPos
  /-- The Sample copied out of the block and not yet published (R148). -/
  reading            : Sample
  /-- `start()` has been called: a second one is no call the source describes (R141). -/
  started            : Bool
  /-- A caller of `stop()` waits for the loop thread to exit (R144). -/
  stopWaiting        : Bool
  /-- A calibration request arrived after the loop read the field and before it resets it (U18). -/
  lateRequest        : Bool
  deriving DecidableEq, Repr

/-- The calls of the consumer on the worker (R142 to R146), the worker's construction (R165), and a look at the latest
Sample by the consumer's logger alone (R164; `takeSample` logs what it takes as well). -/
inductive ConsumerCall where
  | construct (intervalMs : Nat)
  | start
  | stop
  | requestCalibration (ppm : Half)
  | hasUnreadSample
  | takeSample
  | logSample
  deriving DecidableEq, Repr

/-- The value the last accessor call returned to the consumer (R146). -/
inductive ConsumerAnswer where
  | nothing
  | unread (b : Bool)
  | sample (x : Sample)
  deriving DecidableEq, Repr

/-- One four-field log record, in the order R164 fixes. -/
structure LogRecord where
  timestamp : String
  co2       : Word32
  temp      : Word32
  hum       : Word32
  deriving DecidableEq, Repr

/-- The consumer: the last answer it got, and the records it has forwarded, oldest first (R164). -/
structure Consumer where
  answer : ConsumerAnswer
  log    : List LogRecord
  deriving DecidableEq, Repr

/-- What reaches the machine from outside at a step, other than requests and bus answers. -/
inductive Input where
  /-- Nothing. -/
  | pass
  /-- The reset event (spec/70_reset_and_hazards.md R190). -/
  | reset
  /-- The host starts other traffic on the block's bus handle (R202). -/
  | foreignTraffic
  | call (c : ConsumerCall)
  deriving DecidableEq, Repr

/-- Everything the spec gives the machine. The first sixteen fields are R11's table, in its order. -/
@[ext]
structure State where
  seq      : Phase
  crc      : Byte
  cmd      : Half
  arg      : Half
  tx       : Memory
  txLen    : BitVec 3
  rx       : Memory
  rxLen    : BitVec 5
  ok       : Bool
  valid    : Bool
  fault    : Bool
  busOwned : Bool
  fCo2     : Word32
  fTemp    : Word32
  fHum     : Word32
  fRes     : Word32
  /-- The operation in progress: implied by R12, R62. -/
  cur       : Option Instr
  /-- The outcome of the transfer in progress: implied by R108. -/
  xfer      : Latch
  /-- The request interface: the first is presented, the rest is what the host will present after it (R62). -/
  requests  : List Request
  /-- The environment's answers to the steps in `ACQUIRE`: granted or not yet; none left means never (R104). -/
  grants    : List Bool
  /-- The environment's answers to the coming transfers (R102); none left means free answers. -/
  transfers : List Answer
  /-- What reaches the machine from outside, one entry a step. -/
  inputs    : List Input
  /-- The draw counter that the free values of Config are applied to (the model's own field). -/
  draws     : Nat
  /-- What the bus has carried, oldest first (the model's record of the environment's side, R102, R111). -/
  busLog    : List Transaction
  /-- The Polling Worker, once constructed (R193 step 1). -/
  worker    : Option Worker
  consumer  : Consumer
  deriving DecidableEq, Repr

/-- Why the machine stops. No step from a state that meets `State.Inv` (Safety.lean) raises either. -/
inductive Fault where
  /-- Raised by a meaning asked to run a phase its operation does not have (R197 has no such arrow). Safe: the machine
  stops where the spec gives no behaviour; no run from reset gets there. -/
  | strayPhase
  /-- Raised by a step outside `IDLE` with no operation in progress. Safe, for the same reason. -/
  | noOperation
  deriving DecidableEq, Repr

/-- Why a request, a call or a run is given no meaning (R177). -/
inductive Refusal where
  /-- An instruction that has no meaning yet, by its mnemonic. Safe. -/
  | notModelled (mnemonic : String)
  /-- Raised by `BUS_WRITE` and `BUS_WRITE_THEN_READ` on a length R101 refuses: no state changes (R177). Safe. -/
  | badLength
  /-- Raised by a step at which the host starts other traffic on the bus handle during an operation (R202, U12). Safe. -/
  | busInterleaved
  /-- Raised by a consumer call on a worker that was never constructed (R193). Safe. -/
  | noWorker
  /-- Raised by a second construction: `interval_ms` cannot change while the worker exists (R165). Safe. -/
  | workerExists
  /-- Raised by a construction whose `interval_ms` is 0 or gives more than 65535 seconds (R140, R152). Safe. -/
  | badInterval
  /-- Raised by `start()` when Running (U13). Safe. -/
  | startWhenRunning
  /-- Raised by `start()` after a `stop()` (U13). Safe. -/
  | restart
  /-- Raised by `stop()` when Stopped (U13). Safe. -/
  | stopWhenStopped
  deriving DecidableEq, Repr

/-- What a meaning answers. -/
abbrev Result := Host.Outcome State Fault Refusal

/-- A block right after a reset, its unwritten registers holding the free values drawn from `n` on, and nothing outside
it (R26; a register that holds no value is a free value: notes/assumptions/3). -/
def State.atReset (n : Nat) : State where
  seq      := .idle
  crc      := Config.params.crcInit
  cmd      := Config.freeHalf n
  arg      := Config.freeHalf (n + 1)
  tx       := []
  txLen    := 0
  rx       := []
  rxLen    := 0
  ok       := false
  valid    := false
  fault    := false
  busOwned := false
  fCo2     := Config.freeWord n
  fTemp    := Config.freeWord (n + 1)
  fHum     := Config.freeWord (n + 2)
  fRes     := Config.freeWord (n + 3)
  cur       := none
  xfer      := { completed := false, rxdata := [] }
  requests  := []
  grants    := []
  transfers := []
  inputs    := []
  draws     := n + 4
  busLog    := []
  worker    := none
  consumer  := { answer := .nothing, log := [] }

/-- The machine right after reset, nothing requested and nothing answered (R26, R191). -/
def State.reset : State := State.atReset 0

end Sys2Proof.Machine
end

