-- ==== Sys2Proof/Machine/Flags.lean ====
section
/-! DEFINITION. The four flags (spec/10_state.md R18 to R21), each written by one operation here. There are no arithmetic
flags: CRC8 and DECODE_FLOAT write none (spec/40_crc8.md R84, spec/41_float_codec.md R92). -/

namespace Sys2Proof.Machine

/-- `ok`, the success of the most recent bus transaction (R18); not sticky. -/
def State.setOk (completed : Bool) (s : State) : State := { s with ok := completed }

/-- `valid`, written by READ_MEASUREMENTS alone (R19). -/
def State.setValid (b : Bool) (s : State) : State := { s with valid := b }

/-- `fault`, sticky: set here, cleared by no operation (R20). -/
def State.setFault (s : State) : State := { s with fault := true }

/-- `bus_owned`: 1 from the grant to the release (R21). -/
def State.setBusOwned (b : Bool) (s : State) : State := { s with busOwned := b }

end Sys2Proof.Machine
end

