-- ==== Sys2Proof/Machine/FloatCodec.lean ====
section
/-! DEFINITION. The float decoder as a pure function (spec/41_float_codec.md R90, R95), and the binary32 reading of a
pattern that the host's comparison needs (R91, general knowledge: PRESUMED, notes/assumptions/18). -/

namespace Sys2Proof.Machine

/-- `{b3, b2, b1, b0}`: the byte at the highest address is the most significant (R90). -/
def assembleFloat (b0 b1 b2 b3 : Byte) : Word32 := b3 ++ b2 ++ b1 ++ b0

/-- The pattern of a four-byte sequence; any other length has none. -/
def assembleBytes : List Byte → Option Word32
  | [b0, b1, b2, b3] => some (assembleFloat b0 b1 b2 b3)
  | _ => none

/-- `decode_float(s, off)`, defined when `off + 3 <= len(s) - 1` (R90). -/
def decodeFloat (s : List Byte) (off : Nat) : Option Word32 := assembleBytes ((s.drop off).take 4)

/-- `encode_float(bits)`: the reversed layout (R95). The block has no such operation; it states the round trip. -/
def encodeFloat (bits : Word32) : List Byte :=
  [bits.extractLsb' 0 8, bits.extractLsb' 8 8, bits.extractLsb' 16 8, bits.extractLsb' 24 8]

/-- Sign bit, biased exponent and fraction of a pattern (R91). -/
def Binary32.sign (v : Word32) : Bool := v.getLsbD 31
def Binary32.exponent (v : Word32) : Nat := (v.extractLsb' 23 8).toNat
def Binary32.fraction (v : Word32) : Nat := (v.extractLsb' 0 23).toNat

/-- `E = 255, F != 0` (R91). -/
def Binary32.isNaN (v : Word32) : Bool := Binary32.exponent v == 255 && Binary32.fraction v != 0

/-- `E = 255, F = 0` (R91). -/
def Binary32.isInf (v : Word32) : Bool := Binary32.exponent v == 255 && Binary32.fraction v == 0

/-- The number a finite pattern stands for (R91); none for an infinity or a NaN. -/
def Binary32.value (v : Word32) : Option Rat :=
  if Binary32.exponent v = 255 then none
  else
    let magnitude : Rat :=
      if Binary32.exponent v = 0 then (Binary32.fraction v : Rat) / 2 ^ 149
      else (2 ^ 23 + Binary32.fraction v : Rat) * 2 ^ Binary32.exponent v / 2 ^ 150
    some (if Binary32.sign v then -magnitude else magnitude)

/-- The host's comparison `co2_ppm > 0` (spec/45_host_polling_worker.md R149): an ordered binary32 comparison, false for
both zeros, every negative value and every NaN, true for positive infinity. -/
def Binary32.gtZero (v : Word32) : Bool :=
  !Binary32.sign v && !Binary32.isNaN v && (Binary32.exponent v != 0 || Binary32.fraction v != 0)

end Sys2Proof.Machine
end

