-- ==== Sys2Proof/Machine/Memory.lean ====
section
/-! DEFINITION. The two byte buffers `TX` and `RX` as memories in one canonical form (spec/20_memory.md R40, R41), and
`MemRead`, `MemWrite` (spec/00_scope.md section 5, R46). -/

namespace Sys2Proof.Machine

/-- The byte at an address; none where nothing was written (spec/10_state.md R27). -/
def Memory.get : Memory → Nat → Option Byte
  | [],          _ => none
  | (k, b) :: m, a => if k = a then some b else Memory.get m a

/-- One byte written, the addresses kept rising. -/
def Memory.set : Memory → Nat → Byte → Memory
  | [],          a, v => [(a, v)]
  | (k, b) :: m, a, v =>
    if a < k then (a, v) :: (k, b) :: m
    else if a = k then (a, v) :: m
    else (k, b) :: Memory.set m a v

/-- `MemWrite(a, len(v), v)`: ascending addresses from `a`. -/
def Memory.write : Memory → Nat → List Byte → Memory
  | m, _, []      => m
  | m, a, v :: vs => Memory.write (Memory.set m a v) (a + 1) vs

/-- The `n` bytes from `a` on, if every one of them holds a value. -/
def Memory.readBytes (m : Memory) (a : Nat) : Nat → Option (List Byte)
  | 0     => some []
  | n + 1 => match Memory.get m a, Memory.readBytes m (a + 1) n with
    | some b, some bs => some (b :: bs)
    | _,      _       => none

/-- `MemRead(a, n)` of a buffer with `limit` meaningful bytes: none, which the caller turns into the fault, unless
`a + n <= limit` (R46) and every byte holds a value (R27). -/
def memRead (m : Memory) (limit a n : Nat) : Option (List Byte) :=
  if a + n ≤ limit then Memory.readBytes m a n else none

/-- The canonical form of a buffer of `cap` bytes: addresses strictly rising and below the capacity. No entry can equal
what an unlisted address reads as, which is no value. -/
abbrev Memory.wf (cap : Nat) (m : Memory) : Prop :=
  m.Pairwise (fun x y => x.1 < y.1) ∧ ∀ c ∈ m, c.1 < cap

end Sys2Proof.Machine
end

