-- ==== Sys2Proof/Machine/Ops.lean ====
section
/-! DEFINITION. The operations the meanings share: moving the sequencer, raising the fault (spec/60_exceptions.md R176),
building a frame (spec/43_sensor_commands.md R120, R121), the three phases of a transaction (spec/42_bus_transport.md R103
to R111), decoding the response (R130), and the reset event (spec/70_reset_and_hazards.md R190). -/

namespace Sys2Proof.Machine

/-! ## The sequencer -/

/-- An operation is accepted: it is the one in progress and the sequencer leaves `IDLE` (R62, R197). -/
def State.enter (i : Instr) (p : Phase) (s : State) : State := { s with cur := some i, seq := p }

/-- The sequencer moves inside an operation. -/
def State.goto (p : Phase) (s : State) : State := { s with seq := p }

/-- The operation is complete: back in `IDLE` (R103). -/
def State.finish (s : State) : State := { s with cur := none, seq := .idle }

/-- `raise Fault(reason)`: the operation ends, `fault <- 1`, `seq <- IDLE`, nothing else is written (R176). This is the
hardware's whole exception entry; nothing is saved, so there is no return (R180, R181). -/
def State.raiseFault (s : State) : State := s.setFault.finish

/-- A request runs in `IDLE`, or in a later phase if it is the operation in progress; any other request is held at the
interface, unchanged (R62). -/
def State.serve (i : Instr) (s : State) (r : Result) : Result :=
  if s.seq = .idle ∨ s.cur = some i then r else .next s

/-! ## The frame encoder -/

/-- The operand latches of a command operation (R14, R122). -/
def State.latchCmd (code : Half) (s : State) : State := { s with cmd := code }
def State.latchArg (arg : Half) (s : State) : State := { s with arg := arg }

/-- `MemWrite(TX:0, len(data), data); tx_len <- len(data)`: bytes above stay where they are, without meaning (R15). -/
def State.fillTx (data : List Byte) (s : State) : State :=
  { s with tx := s.tx.write 0 data, txLen := BitVec.ofNat 3 data.length }

/-- `encode_frame(cmd)` (R120): `crc` is not written. -/
def State.encodeN (s : State) : State := s.fillTx (frameN s.cmd)

/-- `encode_frame(cmd, arg)` (R121): `crc` is written and sent. -/
def State.encodeA (s : State) : State :=
  { s.fillTx (frameA s.cmd s.arg (argCrc s.arg)) with crc := argCrc s.arg }

/-- `TX[0..tx_len-1]`, those of its bytes that hold a value (all of them, in a state that meets `State.Inv`). -/
def State.txBytes (s : State) : List Byte := (List.range s.txLen.toNat).filterMap s.tx.get

/-! ## The bus transport -/

/-- How many bytes the transaction in progress reads after its write (R109). -/
def State.readCount (s : State) : Nat :=
  match s.cur with
  | some i => opReadLen i
  | none   => 0

/-- One step in `ACQUIRE`: held until the environment grants the bus (R104). -/
def State.acquire (s : State) : State :=
  match s.grants with
  | true :: g  => { s with grants := g, seq := .transfer }.setBusOwned true
  | false :: g => { s with grants := g }
  | []         => s

/-- The environment's answer to the transfer in progress (R102). Where none is scripted, all of it is free: whether the
transfer completes, every received byte, and how many bytes the target took (notes/assumptions/10). -/
def State.answer (s : State) : Answer :=
  match s.transfers with
  | a :: _ => a
  | []     => { completed := Config.freeCompleted s.draws, rxdata := [], taken := Config.freeCount s.draws }

/-- What the target received: every byte, in order, once, of a completed transfer; else an initial part, possibly empty,
possibly all of it (R111). -/
def receivedBytes (a : Answer) (bytes : List Byte) : List Byte :=
  if a.completed then bytes else bytes.take a.taken

/-- `TRANSFER`: the bytes go out in order after the address byte, and the environment answers (R106, R107, R109). -/
def State.transmit (bytes : List Byte) (s : State) : State :=
  { s with
    transfers := s.transfers.tail
    draws := s.draws + 1
    xfer := { completed := s.answer.completed, rxdata := s.answer.rxdata }
    busLog := s.busLog ++
      [{ address := Config.addrByte, written := bytes, readLen := s.readCount, completed := s.answer.completed,
         received := receivedBytes s.answer bytes }]
    seq := .release }

/-- `RELEASE`, what every operation does there: the bus is given up after every transfer, completed or not, and `ok` is
the transfer's outcome (R108, R112, R113). -/
def State.release (s : State) : State := (s.setBusOwned false).setOk s.xfer.completed

/-- The eighteen bytes of `RX` after a read of `n` bytes: the received ones, and an unspecified byte wherever the
transfer failed or delivered none (R110). -/
def State.rxContents (n : Nat) (s : State) : List Byte :=
  (List.range Config.params.rxCap).map fun k =>
    if s.xfer.completed ∧ k < n then s.xfer.rxdata.getD k (Config.freeByte (s.draws + k))
    else Config.freeByte (s.draws + k)

/-- The receive buffer after a write-then-read (R110): `rx_len` is 0 after a failure. -/
def State.receive (s : State) : State :=
  { s with
    rx := s.rx.write 0 (s.rxContents s.readCount)
    rxLen := if s.xfer.completed then BitVec.ofNat 5 s.readCount else 0
    draws := s.draws + Config.params.rxCap }

/-! ## The decode step -/

/-- `decode_float(RX, off)` on the meaningful part of the buffer; none out of bounds (R92, R93). -/
def State.decodeAt (off : Nat) (s : State) : Option Word32 :=
  match memRead s.rx s.rxLen.toNat off 4 with
  | some bytes => assembleBytes bytes
  | none       => none

/-- The three floats of the response at `FLOAT_OFFSETS` (R130). -/
def State.decodeSample (s : State) : Option (Word32 × Word32 × Word32) :=
  match s.decodeAt Config.params.offsetCo2, s.decodeAt Config.params.offsetTemp,
    s.decodeAt Config.params.offsetHum with
  | some c, some t, some h => some (c, t, h)
  | _,      _,      _      => none

/-- The sample registers and `valid`, written together (R48, R130). -/
def State.storeSample (c t h : Word32) (s : State) : State :=
  { s with fCo2 := c, fTemp := t, fHum := h }.setValid true

/-- A failed read: `valid <- 0` and the three floats unspecified, together (R131). -/
def State.dropSample (s : State) : State :=
  { s with fCo2 := Config.freeWord s.draws, fTemp := Config.freeWord (s.draws + 1),
           fHum := Config.freeWord (s.draws + 2), draws := s.draws + 3 }.setValid false

/-! ## Reset -/

/-- What the target has of a transfer that a reset abandons: an initial part of the frame (R190); a reset in any other
phase puts nothing on the bus. -/
def State.abandoned (s : State) : List Transaction :=
  if s.seq = .transfer then
    [{ address := Config.addrByte, written := s.txBytes, readLen := s.readCount, completed := false,
       received := s.txBytes.take (Config.freeCount s.draws) }]
  else []

/-- The reset event (R190): every register, flag and buffer of the block takes its reset value, whatever the block was
doing. What is outside the block stays: the interface, the environment, the host. -/
def State.resetBlock (s : State) : State :=
  { State.atReset (s.draws + 1) with
    requests := s.requests, grants := s.grants, transfers := s.transfers, inputs := s.inputs
    busLog := s.busLog ++ s.abandoned
    worker := s.worker, consumer := s.consumer }

end Sys2Proof.Machine
end

