-- ==== Sys2Proof/Machine/Command.lean ====
section
/-! DEFINITION. The four sensor commands (spec/43_sensor_commands.md R122, R124 to R127): latch the operands, build the
frame, run the transaction, deliver the result. -/

namespace Sys2Proof.Machine

/-- `START_MEASUREMENT` (R124). -/
def execStartMeasurement (s : State) : Result :=
  s.serve .startMeasurement <| match s.seq with
    | .idle     => .next ((s.latchCmd Config.params.cmdStartMeasurement).enter .startMeasurement .encode)
    | .encode   => .next (s.encodeN.goto .acquire)
    | .acquire  => .next s.acquire
    | .transfer => .next (s.transmit s.txBytes)
    | .release  => .next s.release.finish
    | .decode   => .fault .strayPhase

/-- `SET_INTERVAL interval_seconds` (R125); every 16-bit value is encoded (R123). -/
def execSetInterval (arg : Half) (s : State) : Result :=
  s.serve (.setInterval arg) <| match s.seq with
    | .idle =>
      .next (((s.latchCmd Config.params.cmdSetInterval).latchArg arg).enter (.setInterval arg) .encode)
    | .encode   => .next (s.encodeA.goto .acquire)
    | .acquire  => .next s.acquire
    | .transfer => .next (s.transmit s.txBytes)
    | .release  => .next s.release.finish
    | .decode   => .fault .strayPhase

/-- `CALIBRATE reference_ppm` (R126); every 16-bit value is encoded (R123). -/
def execCalibrate (arg : Half) (s : State) : Result :=
  s.serve (.calibrate arg) <| match s.seq with
    | .idle =>
      .next (((s.latchCmd Config.params.cmdCalibrate).latchArg arg).enter (.calibrate arg) .encode)
    | .encode   => .next (s.encodeA.goto .acquire)
    | .acquire  => .next s.acquire
    | .transfer => .next (s.transmit s.txBytes)
    | .release  => .next s.release.finish
    | .decode   => .fault .strayPhase

/-- `READ_MEASUREMENTS` (R127): a failed read is tested before any decode (R179) and drops the sample (R131); a
successful one decodes it in `DECODE` (R130). -/
def execReadMeasurements (s : State) : Result :=
  s.serve .readMeasurements <| match s.seq with
    | .idle     => .next ((s.latchCmd Config.params.cmdReadMeasurements).enter .readMeasurements .encode)
    | .encode   => .next (s.encodeN.goto .acquire)
    | .acquire  => .next s.acquire
    | .transfer => .next (s.transmit s.txBytes)
    | .release  =>
      if s.xfer.completed then .next (s.release.receive.goto .decode)
      else .next s.release.receive.dropSample.finish
    | .decode   => match s.decodeSample with
      | some (c, t, h) => .next (s.storeSample c t h).finish
      | none           => .next s.raiseFault

end Sys2Proof.Machine
end

