-- ==== Sys2Proof/Machine/Primitive.lean ====
section
/-! DEFINITION. The four primitive operations: CRC8 (spec/40_crc8.md R84), DECODE_FLOAT (spec/41_float_codec.md R92, R93),
BUS_WRITE (spec/42_bus_transport.md R112) and BUS_WRITE_THEN_READ (R113). -/

namespace Sys2Proof.Machine

/-- `CRC8 data` (R84): completes in place; the earlier value of `crc` is not read. -/
def execCrc8 (data : List Byte) (s : State) : Result :=
  s.serve (.crc8 data) <| match s.seq with
    | .idle => .next { s with crc := crc8 data }
    | .encode | .acquire | .transfer | .release | .decode => .fault .strayPhase

/-- `DECODE_FLOAT off` (R92): completes in place; out of bounds it raises the fault and writes nothing else (R93). -/
def execDecodeFloat (off : BitVec 5) (s : State) : Result :=
  s.serve (.decodeFloat off) <| match s.seq with
    | .idle => match s.decodeAt off.toNat with
      | some bits => .next { s with fRes := bits }
      | none      => .next s.raiseFault
    | .encode | .acquire | .transfer | .release | .decode => .fault .strayPhase

/-- `BUS_WRITE data` (R112): refused on a bad length, before any state is written (R179). -/
def execBusWrite (data : List Byte) (s : State) : Result :=
  s.serve (.busWrite data) <| match s.seq with
    | .idle =>
      if legalWriteLength data then .next ((s.fillTx data).enter (.busWrite data) .acquire)
      else .refused .badLength
    | .acquire  => .next s.acquire
    | .transfer => .next (s.transmit s.txBytes)
    | .release  => .next s.release.finish
    | .encode | .decode => .fault .strayPhase

/-- `BUS_WRITE_THEN_READ data, read_len` (R113). -/
def execBusWriteThenRead (data : List Byte) (n : BitVec 5) (s : State) : Result :=
  s.serve (.busWriteThenRead data n) <| match s.seq with
    | .idle =>
      if legalWriteLength data && legalReadLength n then
        .next ((s.fillTx data).enter (.busWriteThenRead data n) .acquire)
      else .refused .badLength
    | .acquire  => .next s.acquire
    | .transfer => .next (s.transmit s.txBytes)
    | .release  => .next s.release.receive.finish
    | .encode | .decode => .fault .strayPhase

end Sys2Proof.Machine
end

