-- ==== Sys2Proof/Machine/Wire.lean ====
section
/-! DEFINITION. The four command frames on the bus (spec/30_encoding.md R64, R65, R67): a frame is what `TRANSFER`
carries (spec/42_bus_transport.md R106, R109). In every other phase the block puts nothing on the bus (spec/20_memory.md
R54, spec/42_bus_transport.md R104), so a frame waits, unchanged. -/

namespace Sys2Proof.Machine

/-- The bytes of a frame go out in `TRANSFER`; before the grant and after the transfer nothing is sent. -/
def State.sendFrame (bytes : List Byte) (s : State) : Result :=
  match s.seq with
  | .transfer => .next (s.transmit bytes)
  | .idle | .encode | .acquire | .release | .decode => .next s

/-- `WIRE.START_MEASUREMENT`: `00 10` (R124). -/
def execWireStartMeasurement (s : State) : Result :=
  s.sendFrame (frameN Config.params.cmdStartMeasurement)

/-- `WIRE.READ_MEASUREMENTS`: `03 00` (R127); the read that follows is the operation's (R109). -/
def execWireReadMeasurements (s : State) : Result :=
  s.sendFrame (frameN Config.params.cmdReadMeasurements)

/-- `WIRE.SET_INTERVAL`: `46 00`, the argument, the CRC byte as it stands (R125; the transport inspects nothing, R71). -/
def execWireSetInterval (arg : Half) (crc : Byte) (s : State) : Result :=
  s.sendFrame (frameA Config.params.cmdSetInterval arg crc)

/-- `WIRE.CALIBRATE`: `52 04`, the argument, the CRC byte as it stands (R126, R71). -/
def execWireCalibrate (arg : Half) (crc : Byte) (s : State) : Result :=
  s.sendFrame (frameA Config.params.cmdCalibrate arg crc)

end Sys2Proof.Machine
end

