-- ==== Sys2Proof/Machine/Dispatch.lean ====
section
/-! DEFINITION. One arm per row of spec/opcode_table.json. -/

namespace Sys2Proof.Machine

def exec (i : Instr) (s : State) : Host.Outcome State Fault Refusal :=
  match i with
  | .crc8 data => Sys2Proof.Machine.execCrc8 data s
  | .decodeFloat off => Sys2Proof.Machine.execDecodeFloat off s
  | .busWrite data => Sys2Proof.Machine.execBusWrite data s
  | .busWriteThenRead data n => Sys2Proof.Machine.execBusWriteThenRead data n s
  | .startMeasurement => Sys2Proof.Machine.execStartMeasurement s
  | .setInterval arg => Sys2Proof.Machine.execSetInterval arg s
  | .calibrate arg => Sys2Proof.Machine.execCalibrate arg s
  | .readMeasurements => Sys2Proof.Machine.execReadMeasurements s
  | .wireStartMeasurement => Sys2Proof.Machine.execWireStartMeasurement s
  | .wireReadMeasurements => Sys2Proof.Machine.execWireReadMeasurements s
  | .wireSetInterval arg crc => Sys2Proof.Machine.execWireSetInterval arg crc s
  | .wireCalibrate arg crc => Sys2Proof.Machine.execWireCalibrate arg crc s

end Sys2Proof.Machine
end

