-- ==== Sys2Proof/Machine/Worker.lean ====
section
/-! DEFINITION. The host around the block (spec/45_host_polling_worker.md): the consumer's calls on the Polling Worker
(R142 to R146, R164, R165) and the worker's loop thread (R143, R147 to R152, R166). Host rules: they bind the software
that drives the block. -/

namespace Sys2Proof.Machine

/-! ## Timestamps and log records -/

/-- A number of at least two digits. -/
def twoDigits (n : Nat) : String := if n < 10 then "0" ++ toString n else toString n

/-- `YYYY-M-D H:MM:SS`: month, day and hour unpadded; minute and second padded as the open host parameter says (R148,
spec/90_conflicts.md C8). -/
def renderTimestamp (t : Config.DateTime) : String :=
  let two (n : Nat) : String := if Config.tsPadMinsec then twoDigits n else toString n
  toString t.year ++ "-" ++ toString t.month ++ "-" ++ toString t.day ++ " " ++ toString t.hour ++ ":" ++
    two t.minute ++ ":" ++ two t.second

/-- The four-field record of a Sample, in the order R164 fixes. -/
def logRecord (x : Sample) : LogRecord := { timestamp := x.timestamp, co2 := x.co2, temp := x.temp, hum := x.hum }

/-- A record as text: comma-separated, newline-terminated (R164). -/
def csvLine (r : LogRecord) : String :=
  r.timestamp ++ "," ++ Config.printFloat r.co2 ++ "," ++ Config.printFloat r.temp ++ "," ++
    Config.printFloat r.hum ++ "\n"

/-! ## The worker -/

/-- `interval_ms` is above 0 (R140) and its quotient by 1000 fits 16 bits (R152). -/
def legalInterval (ms : Nat) : Bool := decide (0 < ms) && decide (ms / 1000 ≤ 65535)

/-- The argument of the start-up `SET_INTERVAL`: floor division (R152). -/
def Worker.intervalSeconds (w : Worker) : Half := BitVec.ofNat 16 (w.intervalMs / 1000)

/-- A worker as constructed: Stopped, nothing published, nothing pending (R140). -/
def newWorker (ms : Nat) : Worker where
  intervalMs := ms
  running := false
  latestSample := Sample.placeholder
  hasUnread := false
  pendingCalibration := 0
  pos := .stopped
  reading := Sample.placeholder
  started := false
  stopWaiting := false
  lateRequest := false

/-- `start()`: Stopped to Running, the loop thread at its start-up sequence (R142, R143). -/
def Worker.start (w : Worker) : Worker := { w with running := true, started := true, pos := .sendStart }

/-- `stop()`: `running = false`, and the caller waits for the thread to exit (R144). -/
def Worker.stop (w : Worker) : Worker := { w with running := false, stopWaiting := true }

/-- `request_calibration(ppm)`: last write wins (R145); a request between the loop's read and its reset is noted (U18). -/
def Worker.requestCalibration (ppm : Half) (w : Worker) : Worker :=
  { w with pendingCalibration := ppm, lateRequest := decide (w.pos = .clearPending) }

/-- Whether a Sample is published: valid, and CO2 greater than 0 (R149). -/
def publishable (x : Sample) : Bool := x.valid && Binary32.gtZero x.co2

/-- Step 2 of the loop: publish in one atomic write, or discard and keep the previous Sample (R149, R158). -/
def Worker.publish (w : Worker) : Worker :=
  if publishable w.reading then { w with latestSample := w.reading, hasUnread := true } else w

/-- The reset of the pending request after `CALIBRATE` was issued, whatever its `ok` (R150); a late request may be kept
or lost (U18). -/
def Worker.clearPending (keep : Bool) (w : Worker) : Worker :=
  { w with pendingCalibration := if w.lateRequest && keep then w.pendingCalibration else 0, lateRequest := false }

/-- The loop thread moves. -/
def Worker.at (p : WorkerPos) (w : Worker) : Worker := { w with pos := p }

/-- The loop thread has seen `running` false and exits; the caller of `stop()` returns (R144). -/
def Worker.exit (w : Worker) : Worker := { w with pos := .stopped, stopWaiting := false }

/-! ## The machine's steps on the host's side -/

/-- The Sample the host builds from the block's result, stamped with its own clock (R148,
spec/43_sensor_commands.md R134). -/
def State.sampleNow (s : State) : Sample :=
  { co2 := s.fCo2, temp := s.fTemp, hum := s.fHum, timestamp := renderTimestamp (Config.wallClock s.draws),
    valid := s.valid }

def State.setWorker (w : Worker) (s : State) : State := { s with worker := some w }

/-- The loop thread presents a request and waits for its completion (R155: only it does). -/
def State.issue (i : Instr) (s : State) : State := { s with requests := requestFor i }

/-- One move of the loop thread, made when the block is in `IDLE` and no request is presented: the call before, if any,
has returned (R143, R147 to R151, R166). -/
def State.workerStep (w : Worker) (s : State) : State :=
  match w.pos with
  | .stopped      => s
  | .sendStart    => (s.issue .startMeasurement).setWorker (w.at .sendInterval)
  | .sendInterval => (s.issue (.setInterval w.intervalSeconds)).setWorker (w.at .top)
  | .top          => s.setWorker (if w.running then w.at .sendRead else w.exit)
  | .sendRead     => (s.issue .readMeasurements).setWorker (w.at .copyOut)
  | .copyOut      =>
    { s with draws := s.draws + 1 }.setWorker (({ w with reading := s.sampleNow } : Worker).at .publish)
  | .publish      => s.setWorker (w.publish.at .calibrate)
  | .calibrate    =>
    if w.pendingCalibration = 0 then s.setWorker (w.at .sleep)
    else (s.issue (.calibrate w.pendingCalibration)).setWorker
      (({ w with lateRequest := false } : Worker).at .clearPending)
  | .clearPending =>
    { s with draws := s.draws + 1 }.setWorker ((w.clearPending (Config.freeKeep s.draws)).at .sleep)
  | .sleep        => s.setWorker (w.at .top)

/-- The move of the host when the block is idle and nothing is requested: with no worker, none (R191). -/
def State.hostStep (s : State) : State :=
  match s.worker with
  | some w => s.workerStep w
  | none   => s

/-! ## The consumer -/

/-- Whether a call must wait: the caller of `stop()` is blocked until the thread has exited (R144); a calibration request
may come from any thread at any time (R145). -/
def State.callerBlocked (c : ConsumerCall) (s : State) : Bool :=
  match s.worker with
  | some w => w.stopWaiting && (match c with | .requestCalibration _ => false | _ => true)
  | none   => false

def State.setAnswer (a : ConsumerAnswer) (s : State) : State := { s with consumer := { s.consumer with answer := a } }

/-- Whether an observed Sample is forwarded: its timestamp differs from the last one logged (R164). DESIGN CHOICE
(notes/assumptions/28): R164 has no published or valid test, so whether the placeholder that stands before the first
publication is forwarded as well is a free value. -/
def Consumer.forwards (w : Worker) (c : Consumer) : Bool :=
  (w.hasUnread || Config.logsPlaceholder) &&
    decide (c.log.getLast?.map LogRecord.timestamp ≠ some w.latestSample.timestamp)

/-- The consumer observes the latest Sample, and appends its record to the log where it is one to forward (R164). -/
def Consumer.forward (w : Worker) (c : Consumer) : Consumer :=
  if c.forwards w then { c with log := c.log ++ [logRecord w.latestSample] } else c

def State.forward (w : Worker) (s : State) : State := { s with consumer := s.consumer.forward w }

/-- A call on a worker that exists. To take the Sample is to observe it, so it is logged in the same step (R146, R164). -/
def State.callWorker (c : ConsumerCall) (w : Worker) (s : State) : Result :=
  match c with
  | .construct _ => .refused .workerExists
  | .start =>
    if w.started then (if w.running then .refused .startWhenRunning else .refused .restart)
    else .next (s.setWorker w.start)
  | .stop => if w.running then .next (s.setWorker w.stop) else .refused .stopWhenStopped
  | .requestCalibration ppm => .next (s.setWorker (w.requestCalibration ppm))
  | .hasUnreadSample => .next (s.setAnswer (.unread w.hasUnread))
  | .takeSample => .next ((s.forward w).setAnswer (.sample w.latestSample))
  | .logSample => .next (s.forward w)

/-- A consumer call (R142 to R146, R164); before the construction only the construction is one (R193). -/
def State.consumerCall (c : ConsumerCall) (s : State) : Result :=
  match s.worker with
  | some w => s.callWorker c w
  | none   => match c with
    | .construct ms =>
      if legalInterval ms then .next (s.setWorker (newWorker ms)) else .refused .badInterval
    | .start | .stop | .requestCalibration _ | .hasUnreadSample | .takeSample | .logSample => .refused .noWorker

end Sys2Proof.Machine
end

