-- ==== Sys2Proof/Machine/Sequencer.lean ====
section
/-! DEFINITION. What one step runs: where the machine takes its next instruction from in each phase (spec/10_state.md R12,
spec/70_reset_and_hazards.md R197), what reaches it from outside, and how an instruction is placed there. -/

namespace Sys2Proof.Machine

/-- The operation in progress goes on (spec/30_encoding.md R62). -/
def State.continueOp (s : State) : Result :=
  match s.cur with
  | some i => exec i s
  | none   => .fault .noOperation

/-- In `TRANSFER` the instruction is the command frame in `TX`, if `TX` holds one; any other bytes of a raw write go out
as they are, as part of the operation in progress (spec/30_encoding.md R71). -/
def State.runFrame (s : State) : Result :=
  match decode (.frame s.txBytes) with
  | .ok i    => exec i s
  | .error _ => s.continueOp

/-- In `IDLE` the instruction is the request presented; it leaves the interface when it runs (R62). With none, the host
moves. -/
def State.runRequest (s : State) : Result :=
  match s.requests with
  | r :: rest => exec (decodeRequest r) { s with requests := rest }
  | []        => .next s.hostStep

/-- The block's move, or in an idle block the host's. -/
def State.advance (s : State) : Result :=
  match s.seq with
  | .idle     => s.runRequest
  | .transfer => s.runFrame
  | .encode | .acquire | .release | .decode => s.continueOp

/-- Other traffic on the bus handle: no meaning during an operation, no effect on an idle block (R202, U12). -/
def State.otherTraffic (s : State) : Result :=
  if s.seq = .idle then .next s else .refused .busInterleaved

/-- One step: what reaches the machine from outside, or else a move. A call that must wait stays first. -/
def State.sequence (s : State) : Result :=
  match s.inputs with
  | []                     => s.advance
  | .pass :: rest          => { s with inputs := rest }.advance
  | .reset :: rest         => .next { s with inputs := rest }.resetBlock
  | .foreignTraffic :: rest => { s with inputs := rest }.otherTraffic
  | .call c :: rest        =>
    if s.callerBlocked c then s.advance else { s with inputs := rest }.consumerCall c

/-- The operation whose transfer a frame placed in `TX` belongs to: `READ_MEASUREMENTS` for its own frame, a raw write of
the same bytes for the others (spec/30_encoding.md R73). -/
def frameOperation (bytes : List Byte) : Instr :=
  if bytes = frameN Config.params.cmdReadMeasurements then .readMeasurements else .busWrite bytes

/-- A request presented to an idle block. -/
def State.placeRequest (r : Request) (s : State) : State :=
  { s with inputs := [], seq := .idle, cur := none, busOwned := false, requests := r :: s.requests }

/-- A frame in `TX`, the bus granted, the transfer about to begin. -/
def State.placeFrame (bytes : List Byte) (s : State) : State :=
  { s.fillTx bytes with
    inputs := [], seq := .transfer, cur := some (frameOperation bytes), busOwned := true
    cmd := if bytes = frameN Config.params.cmdReadMeasurements then Config.params.cmdReadMeasurements else s.cmd }

/-- An instruction placed where the next step takes it from. -/
def State.placeCode (c : Code) (s : State) : State :=
  match c with
  | .request r   => s.placeRequest r
  | .frame bytes => s.placeFrame bytes

end Sys2Proof.Machine
end

