-- ==== Sys2Proof/Machine/Step.lean ====
section
/-! DEFINITION. The step function and the placing of an instruction; both call Machine/Sequencer.lean. -/

namespace Sys2Proof.Machine

/-- One step of the machine. -/
def step (s : State) : Host.Outcome State Fault Refusal := s.sequence

/-- `s` with the instruction of a word of spec/opcode_table.json placed where the next step takes it from; unchanged for a
word that is none. -/
def State.withFetchWord (s : State) (nbits w : Nat) : State :=
  match tableCode nbits w with
  | some c => s.placeCode c
  | none   => s

end Sys2Proof.Machine
end

