-- ==== Sys2Proof/WellFormed.lean ====
section
/-! DEFINITION. Which instructions are well formed: the operand lengths of the raw transport requests
(spec/42_bus_transport.md R101) and the CRC byte of a format A frame (spec/30_encoding.md R68). Everything else is well
formed by its type: all 3-bit codes are assigned (R63), every 16-bit argument is accepted (R71). -/

namespace Sys2Proof

def Instr.wellFormed : Instr → Bool
  | .crc8 _               => true
  | .decodeFloat _        => true
  | .busWrite data        => Machine.legalWriteLength data
  | .busWriteThenRead d n => Machine.legalWriteLength d && Machine.legalReadLength n
  | .startMeasurement     => true
  | .setInterval _        => true
  | .calibrate _          => true
  | .readMeasurements     => true
  | .wireStartMeasurement => true
  | .wireReadMeasurements => true
  | .wireSetInterval a c  => c == Machine.argCrc a
  | .wireCalibrate a c    => c == Machine.argCrc a

end Sys2Proof
end

