-- ==== Sys2Proof/Safety.lean ====
section
/-! DEFINITION. The terms claims use: the invariant of the block, the invariant of the host, which steps are a reset, the
arrows of the sequencer, and when a state is an acceptable end of a run. -/

namespace Sys2Proof.Machine

/-- A state with `fault = 1` is no acceptable final state of any run (spec/60_exceptions.md R176, spec/10_state.md R20). -/
def State.Acceptable (s : State) : Prop := s.fault = false

/-- `n` steps of the machine, stopping at the first fault or refusal. -/
def runSteps (n : Nat) (s : State) : Result := Host.Core.run Sys2Proof.core n s

/-- The record of a transfer: what the block sent for `s`'s operation and what the target got by the answer `a`
(spec/42_bus_transport.md R106, R109, R111). -/
def transaction (bytes : List Byte) (readLen : Nat) (a : Answer) : Transaction :=
  { address := Config.addrByte, written := bytes, readLen := readLen, completed := a.completed,
    received := if a.completed then bytes else bytes.take a.taken }

/-- A block in `IDLE` to which nothing but its own requests comes at this step, with the operation `i` requested. -/
structure State.Requested (i : Instr) (rest : List Request) (s : State) : Prop where
  quiet   : s.inputs = []
  idle    : s.seq = .idle
  request : ∃ r, s.requests = r :: rest ∧ decodeRequest r = i

/-- This step performs the reset event. -/
def State.resetting (s : State) : Prop := ∃ rest, s.inputs = .reset :: rest

/-- The phases an operation goes through outside `IDLE` (R197). CRC8 and DECODE_FLOAT never leave `IDLE`; a frame is no
operation. -/
def hasPhase : Instr → Phase → Bool
  | .busWrite _, p | .busWriteThenRead _ _, p => p == .acquire || p == .transfer || p == .release
  | .startMeasurement, p | .setInterval _, p | .calibrate _, p =>
    p == .encode || p == .acquire || p == .transfer || p == .release
  | .readMeasurements, p => p != .idle
  | .crc8 _, _ | .decodeFloat _, _ => false
  | .wireStartMeasurement, _ | .wireReadMeasurements, _ | .wireSetInterval _ _, _ | .wireCalibrate _ _, _ => false

/-- The bytes an operation transmits (spec/43_sensor_commands.md R120, R121, spec/42_bus_transport.md R112, R113). -/
def opBytes : Instr → List Byte
  | .busWrite data           => data
  | .busWriteThenRead data _ => data
  | .startMeasurement        => frameN Config.params.cmdStartMeasurement
  | .setInterval arg         => frameA Config.params.cmdSetInterval arg (argCrc arg)
  | .calibrate arg           => frameA Config.params.cmdCalibrate arg (argCrc arg)
  | .readMeasurements        => frameN Config.params.cmdReadMeasurements
  | .crc8 _ | .decodeFloat _ => []
  | .wireStartMeasurement | .wireReadMeasurements | .wireSetInterval _ _ | .wireCalibrate _ _ => []

/-- The operand latched in `arg` by an operation that has one (spec/10_state.md R14). -/
def opArg : Instr → Option Half
  | .setInterval arg => some arg
  | .calibrate arg   => some arg
  | .crc8 _ | .decodeFloat _ | .busWrite _ | .busWriteThenRead _ _ | .startMeasurement | .readMeasurements => none
  | .wireStartMeasurement | .wireReadMeasurements | .wireSetInterval _ _ | .wireCalibrate _ _ => none

/-- The invariant of the block: buffers in canonical form and filled up to their lengths (spec/10_state.md R15, R16), the
bus owned exactly in `TRANSFER` and `RELEASE` (R21), an operation in progress exactly outside `IDLE` and in a phase it has
(R197), its latches and its frame its own (R14, R17), the response whole in `DECODE` (spec/43_sensor_commands.md R127). -/
structure State.Inv (s : State) : Prop where
  txWf      : s.tx.wf Config.params.txCap
  rxWf      : s.rx.wf Config.params.rxCap
  txBound   : s.txLen.toNat ≤ Config.params.txCap
  rxBound   : s.rxLen.toNat ≤ Config.params.rxCap
  txFilled  : ∀ a, a < s.txLen.toNat → (s.tx.get a).isSome
  rxFilled  : ∀ a, a < s.rxLen.toNat → (s.rx.get a).isSome
  owned     : s.busOwned = true ↔ s.seq = .transfer ∨ s.seq = .release
  idle      : s.cur = none → s.seq = .idle
  phase     : ∀ i, s.cur = some i → hasPhase i s.seq = true ∧ i.wellFormed = true
  latchCmd  : ∀ i code, s.cur = some i → commandCode i = some code → s.cmd = code
  latchArg  : ∀ i a, s.cur = some i → opArg i = some a → s.arg = a
  frame     : ∀ i, s.cur = some i → s.seq ≠ .encode → s.txBytes = opBytes i
  response  : s.seq = .decode → s.rxLen = Config.params.readLen

/-- The invariant of the host's side: only publishable Samples are ever published, and before the first publication the
placeholder stands (spec/45_host_polling_worker.md R149, R154, R140); the interval is one a worker may be constructed
with (R152); `running` implies a loop thread and a start (R141, R142). -/
structure Worker.Inv (w : Worker) : Prop where
  published : w.hasUnread = true → publishable w.latestSample = true
  initial   : w.hasUnread = false → w.latestSample = Sample.placeholder
  interval  : legalInterval w.intervalMs = true
  thread    : w.running = true → w.pos ≠ .stopped
  started   : w.pos ≠ .stopped → w.started = true
  waiting   : w.stopWaiting = true → w.running = false ∧ w.pos ≠ .stopped

def State.HostInv (s : State) : Prop := ∀ w, s.worker = some w → w.Inv

/-- The arrows of the sequencer (spec/70_reset_and_hazards.md R197) other than reset, with the two that stay in place: an
operation that completes in `IDLE`, and the hold in `ACQUIRE`. -/
def arrow : Phase → Phase → Bool
  | .idle,     p => p == .idle || p == .acquire || p == .encode
  | .encode,   p => p == .acquire
  | .acquire,  p => p == .acquire || p == .transfer
  | .transfer, p => p == .release
  | .release,  p => p == .idle || p == .decode
  | .decode,   p => p == .idle

end Sys2Proof.Machine
end

