-- ==== Sys2Proof/Certificates/Slice0/Obligations.lean ====
section
/-! DEFINITION. The statements for the provers. OBLIGATIONS.json lists each with the rule or sections of spec/ it
formalises; notes/assumptions/ holds the choices a docstring names. -/

open Sys2Proof Sys2Proof.Machine

/-! ## Encodings -/

/-- Decoding the encoding of a well-formed instruction gives it back, with every operand (30_encoding.md sections 2, 3). -/
def Obligations.EncodeThenDecode : Prop :=
  ∀ i : Instr, i.wellFormed = true → decode (encode i) = .ok i

/-- A byte sequence that decodes to a frame is exactly that frame's encoding: no two byte sequences are one frame
(30_encoding.md section 3). -/
def Obligations.DecodedFrameReencodes : Prop :=
  ∀ (bytes : List Byte) (i : Instr), decode (.frame bytes) = .ok i → encode i = .frame bytes

/-- A frame's length is a function of its command code: 2 for 0x0010 and 0x0300, 5 for 0x4600 and 0x5204; a sequence that
starts with one of them is a frame iff it has that length, and any other code is no frame (30_encoding.md sections 3, 4). -/
def Obligations.CommandCodeFixesFrameLength : Prop :=
  ∀ (c1 c0 : Byte) (rest : List Byte),
    ((c1 ++ c0 = 0x0010#16 ∨ c1 ++ c0 = 0x0300#16) →
      ((∃ i, decode (.frame (c1 :: c0 :: rest)) = .ok i) ↔ rest.length = 0)) ∧
    ((c1 ++ c0 = 0x4600#16 ∨ c1 ++ c0 = 0x5204#16) →
      ((∃ i, decode (.frame (c1 :: c0 :: rest)) = .ok i) ↔ rest.length = 3)) ∧
    (c1 ++ c0 ≠ 0x0010#16 → c1 ++ c0 ≠ 0x0300#16 → c1 ++ c0 ≠ 0x4600#16 → c1 ++ c0 ≠ 0x5204#16 →
      decode (.frame (c1 :: c0 :: rest)) = .error .unknownCommand)

/-- A format A frame is well formed iff its last byte is the checksum of its argument bytes, equivalently iff the
checksum of the argument bytes and that byte is 0 (30_encoding.md section 3). -/
def Obligations.FrameCrcByteChecks : Prop :=
  ∀ (arg : Half) (c : Byte),
    ((Instr.wireSetInterval arg c).wellFormed = true ↔ c = crc8 [hiByte arg, loByte arg]) ∧
    ((Instr.wireCalibrate arg c).wellFormed = true ↔ c = crc8 [hiByte arg, loByte arg]) ∧
    (c = crc8 [hiByte arg, loByte arg] ↔ crc8 [hiByte arg, loByte arg, c] = 0)

/-- Words written out from the encoding tables decode to the instructions they stand for: all eight operation codes, with
whatever stands at the operand ports, and the four frames (30_encoding.md sections 2, 3). -/
def Obligations.WrittenOutWordsDecode : Prop :=
  (∀ p : Ports,
    decode (.request ⟨0b000#3, p⟩) = .ok (.crc8 p.data) ∧
    decode (.request ⟨0b001#3, p⟩) = .ok (.decodeFloat p.off) ∧
    decode (.request ⟨0b010#3, p⟩) = .ok (.busWrite p.data) ∧
    decode (.request ⟨0b011#3, p⟩) = .ok (.busWriteThenRead p.data p.readLen) ∧
    decode (.request ⟨0b100#3, p⟩) = .ok .startMeasurement ∧
    decode (.request ⟨0b101#3, p⟩) = .ok (.setInterval p.arg) ∧
    decode (.request ⟨0b110#3, p⟩) = .ok (.calibrate p.arg) ∧
    decode (.request ⟨0b111#3, p⟩) = .ok .readMeasurements) ∧
  decode (.frame [0x00, 0x10]) = .ok .wireStartMeasurement ∧
  decode (.frame [0x03, 0x00]) = .ok .wireReadMeasurements ∧
  decode (.frame [0x46, 0x00, 0x02, 0x58, 0x9F]) = .ok (.wireSetInterval 600 0x9F) ∧
  decode (.frame [0x52, 0x04, 0x01, 0x90, 0x4C]) = .ok (.wireCalibrate 400 0x4C)

/-! ## The CRC-8 generator -/

/-- The byte step is the byte-parallel form of R85 applied to `a ^ b`, and eight rounds are linear over XOR. -/
def Obligations.CrcByteParallelForm : Prop :=
  (∀ a b : Byte, crcByte a b = crcParallel (a ^^^ b)) ∧
  (∀ x y : Byte, crcRounds 8 (x ^^^ y) = crcRounds 8 x ^^^ crcRounds 8 y)

/-- The checksum of a sequence followed by its own checksum is 0 (R87). -/
def Obligations.CrcOfCheckedSequenceIsZero : Prop :=
  ∀ s : List Byte, crc8 (s ++ [crc8 s]) = 0

/-- CRC8 is selected by 000, writes `crc` alone, completes in place for any input, and gives the values listed there
(40_crc8.md section 2, 30_encoding.md section 2; the code 000 is the spec's own decision, R63 and D2, and the value 0x9F of
the worked example its own inference, marked derived in R84). -/
def Obligations.Crc8WritesChecksum : Prop :=
  (∀ p : Ports, decode (.request ⟨0b000#3, p⟩) = .ok (.crc8 p.data)) ∧
  (∀ (data : List Byte) (s : State), s.seq = .idle →
    exec (.crc8 data) s = .next { s with crc := crc8 data }) ∧
  crc8 [] = 0xFF ∧ crc8 [0x00] = 0xAC ∧ crc8 [0x02, 0x58] = 0x9F

/-! ## The float decoder -/

/-- Decoding the reversed layout of a pattern gives the pattern back, for all 2^32 of them (R95). -/
def Obligations.FloatDecodeInvertsLayout : Prop :=
  ∀ bits : Word32,
    encodeFloat bits = [bits.extractLsb' 0 8, bits.extractLsb' 8 8, bits.extractLsb' 16 8, bits.extractLsb' 24 8] ∧
    decodeFloat (encodeFloat bits) 0 = some bits

/-- The result pattern is a bijective function of the four bytes: no two inputs share one, and every pattern is reached
(41_float_codec.md section 2). -/
def Obligations.FloatDecodeIsBijective : Prop :=
  (∀ a0 a1 a2 a3 b0 b1 b2 b3 : Byte,
    assembleFloat a0 a1 a2 a3 = assembleFloat b0 b1 b2 b3 → a0 = b0 ∧ a1 = b1 ∧ a2 = b2 ∧ a3 = b3) ∧
  (∀ bits : Word32, ∃ b0 b1 b2 b3, assembleFloat b0 b1 b2 b3 = bits)

/-- DECODE_FLOAT in bounds writes `fres` with the four bytes in fully reversed order, and nothing else
(41_float_codec.md sections 1, 2). -/
def Obligations.DecodeFloatInBounds : Prop :=
  ∀ (off : BitVec 5) (b0 b1 b2 b3 : Byte) (s : State),
    s.seq = .idle → off.toNat + 4 ≤ s.rxLen.toNat →
    s.rx.get off.toNat = some b0 → s.rx.get (off.toNat + 1) = some b1 →
    s.rx.get (off.toNat + 2) = some b2 → s.rx.get (off.toNat + 3) = some b3 →
    exec (.decodeFloat off) s = .next { s with fRes := b3 ++ b2 ++ b1 ++ b0 }

/-- DECODE_FLOAT out of bounds sets `fault` and writes nothing else: the operation ends in `IDLE` with no result
(41_float_codec.md section 2, 60_exceptions.md section 1). -/
def Obligations.DecodeFloatOutOfBounds : Prop :=
  ∀ (off : BitVec 5) (s : State), s.seq = .idle → s.cur = none → off.toNat + 4 > s.rxLen.toNat →
    exec (.decodeFloat off) s = .next { s with fault := true }

/-! ## The bus transport -/

/-- A raw request whose length is outside 1 to 5, or whose `read_len` is outside 1 to 18, is refused
(42_bus_transport.md section 1). -/
def Obligations.IllegalLengthsRefused : Prop :=
  (∀ (data : List Byte) (s : State), s.seq = .idle → ¬ (1 ≤ data.length ∧ data.length ≤ 5) →
    exec (.busWrite data) s = .refused .badLength) ∧
  (∀ (data : List Byte) (n : BitVec 5) (s : State), s.seq = .idle →
    ¬ (1 ≤ data.length ∧ data.length ≤ 5 ∧ 1 ≤ n.toNat ∧ n.toNat ≤ 18) →
    exec (.busWriteThenRead data n) s = .refused .badLength)

/-- A raw request of legal lengths is accepted: `TX` and `tx_len` hold its bytes and it waits for the bus
(42_bus_transport.md section 4). -/
def Obligations.RawTransportAccepted : Prop :=
  (∀ (data : List Byte) (s : State), s.seq = .idle → 1 ≤ data.length → data.length ≤ 5 →
    exec (.busWrite data) s =
      .next { s with tx := s.tx.write 0 data, txLen := BitVec.ofNat 3 data.length,
                     cur := some (.busWrite data), seq := .acquire }) ∧
  (∀ (data : List Byte) (n : BitVec 5) (s : State), s.seq = .idle → 1 ≤ data.length → data.length ≤ 5 →
    1 ≤ n.toNat → n.toNat ≤ 18 →
    exec (.busWriteThenRead data n) s =
      .next { s with tx := s.tx.write 0 data, txLen := BitVec.ofNat 3 data.length,
                     cur := some (.busWriteThenRead data n), seq := .acquire })

/-- In `ACQUIRE` every bus operation is held, unchanged, until the environment grants the bus; the grant makes the bus the
block's and begins the transfer (42_bus_transport.md section 2). -/
def Obligations.AcquireHoldsUntilGrant : Prop :=
  ∀ (i : Instr) (s : State), hasPhase i .acquire = true → s.cur = some i → s.seq = .acquire →
    (∀ g, s.grants = true :: g → exec i s = .next { s with grants := g, busOwned := true, seq := .transfer }) ∧
    (∀ g, s.grants = false :: g → exec i s = .next { s with grants := g }) ∧
    (s.grants = [] → exec i s = .next s)

/-- In `TRANSFER` every bus operation puts `TX[0..tx_len-1]` on the bus after the address byte, in one transfer with the
bytes it reads, and takes the environment's answer (42_bus_transport.md section 2). -/
def Obligations.TransferSendsTransmitBuffer : Prop :=
  ∀ (i : Instr) (s : State), hasPhase i .transfer = true → s.cur = some i → s.seq = .transfer →
    exec i s = .next { s with
      transfers := s.transfers.tail, draws := s.draws + 1
      xfer := { completed := s.answer.completed, rxdata := s.answer.rxdata }
      busLog := s.busLog ++ [transaction s.txBytes (opReadLen i) s.answer], seq := .release }

/-- At `RELEASE` a pure write gives the bus up, whatever the outcome, writes `ok` with it and is complete
(42_bus_transport.md sections 2, 4, 43_sensor_commands.md section 2). -/
def Obligations.WriteReleaseDeliversOk : Prop :=
  ∀ (i : Instr) (s : State),
    ((∃ data, i = .busWrite data) ∨ i = .startMeasurement ∨ (∃ a, i = .setInterval a) ∨ (∃ a, i = .calibrate a)) →
    s.cur = some i → s.seq = .release →
    exec i s = .next { s with busOwned := false, ok := s.xfer.completed, cur := none, seq := .idle }

/-- At `RELEASE` BUS_WRITE_THEN_READ gives the bus up, writes `ok`, and leaves the received bytes in `RX[0..read_len-1]`
with `rx_len <- read_len` on success, and `rx_len <- 0` on failure; `RX` above that holds some unspecified byte
everywhere (42_bus_transport.md section 3; which byte is a free value, notes/assumptions/4). -/
def Obligations.RawReadReleaseFillsReceiveBuffer : Prop :=
  ∀ (data : List Byte) (n : BitVec 5) (s : State),
    s.cur = some (.busWriteThenRead data n) → s.seq = .release → n.toNat ≤ 18 →
    ∃ t, exec (.busWriteThenRead data n) s = .next t ∧ t.seq = .idle ∧ t.cur = none ∧ t.busOwned = false ∧
      t.ok = s.xfer.completed ∧ t.rxLen = (if s.xfer.completed then n else 0) ∧
      (s.xfer.completed = true → ∀ k b, k < n.toNat → s.xfer.rxdata[k]? = some b → t.rx.get k = some b) ∧
      (∀ k, k < 18 → (t.rx.get k).isSome = true)

/-! ## The sensor commands -/

/-- A command operation is accepted by latching its command code, and its argument if it has one
(43_sensor_commands.md sections 1 to 3). -/
def Obligations.CommandLatchesOperands : Prop :=
  ∀ s : State, s.seq = .idle →
    exec .startMeasurement s =
      .next { s with cmd := 0x0010, cur := some .startMeasurement, seq := .encode } ∧
    (∀ a, exec (.setInterval a) s =
      .next { s with cmd := 0x4600, arg := a, cur := some (.setInterval a), seq := .encode }) ∧
    (∀ a, exec (.calibrate a) s =
      .next { s with cmd := 0x5204, arg := a, cur := some (.calibrate a), seq := .encode }) ∧
    exec .readMeasurements s =
      .next { s with cmd := 0x0300, cur := some .readMeasurements, seq := .encode }

/-- `encode_frame(cmd)`: two bytes, high byte first, no CRC byte, `crc` not written (R120). -/
def Obligations.FormatNFrameBuilt : Prop :=
  ∀ (i : Instr) (s : State), (i = .startMeasurement ∨ i = .readMeasurements) → s.cur = some i → s.seq = .encode →
    exec i s = .next { s with
      tx := (s.tx.set 0 (s.cmd.extractLsb' 8 8)).set 1 (s.cmd.extractLsb' 0 8), txLen := 2, seq := .acquire }

/-- `encode_frame(cmd, arg)`: command code, argument, and the checksum of the two argument bytes, which is left in `crc`
(R121). -/
def Obligations.FormatAFrameBuilt : Prop :=
  ∀ (i : Instr) (s : State), ((∃ a, i = .setInterval a) ∨ (∃ a, i = .calibrate a)) → s.cur = some i →
    s.seq = .encode →
    exec i s = .next { s with
      tx := ((((s.tx.set 0 (s.cmd.extractLsb' 8 8)).set 1 (s.cmd.extractLsb' 0 8)).set 2
        (s.arg.extractLsb' 8 8)).set 3 (s.arg.extractLsb' 0 8)).set 4
        (crc8 [s.arg.extractLsb' 8 8, s.arg.extractLsb' 0 8])
      crc := crc8 [s.arg.extractLsb' 8 8, s.arg.extractLsb' 0 8], txLen := 5, seq := .acquire }

/-- A failed READ_MEASUREMENTS ends at `RELEASE` with `valid = ok = 0`, `rx_len = 0`, no fault raised, and the three
floats unspecified (43_sensor_commands.md section 3; the floats are free values, notes/assumptions/4: nothing is said of
them). -/
def Obligations.FailedReadDropsSample : Prop :=
  ∀ s : State, s.cur = some .readMeasurements → s.seq = .release → s.xfer.completed = false →
    ∃ t, exec .readMeasurements s = .next t ∧ t.seq = .idle ∧ t.cur = none ∧ t.busOwned = false ∧ t.ok = false ∧
      t.valid = false ∧ t.rxLen = 0 ∧ t.fault = s.fault ∧ t.fRes = s.fRes ∧ t.cmd = s.cmd ∧ t.arg = s.arg ∧
      t.crc = s.crc ∧ t.tx = s.tx ∧ t.txLen = s.txLen

/-- In `DECODE` the three result registers receive bytes 0 to 3, 6 to 9 and 12 to 15 of the response, each fully reversed,
together with `valid <- 1`, and nothing else is written (43_sensor_commands.md section 3). -/
def Obligations.ResponseDecoded : Prop :=
  ∀ (b : Nat → Byte) (s : State), s.cur = some .readMeasurements → s.seq = .decode → s.rxLen = 18 →
    (∀ k, k < 18 → s.rx.get k = some (b k)) →
    exec .readMeasurements s = .next { s with
      fCo2 := b 3 ++ b 2 ++ b 1 ++ b 0, fTemp := b 9 ++ b 8 ++ b 7 ++ b 6, fHum := b 15 ++ b 14 ++ b 13 ++ b 12
      valid := true, cur := none, seq := .idle }

/-! ## Whole operations, from the request to the result -/

/-- BUS_WRITE from its request to its result: with the bus granted at once, four steps, and exactly `TX`, `tx_len` and
`ok` of the block are written (42_bus_transport.md section 4). -/
def Obligations.BusWriteRuns : Prop :=
  ∀ (data : List Byte) (rest : List Request) (g : List Bool) (s : State),
    s.Requested (.busWrite data) rest → s.cur = none → s.busOwned = false → 1 ≤ data.length → data.length ≤ 5 →
    s.grants = true :: g →
    runSteps 4 s = .next { s with
      tx := s.tx.write 0 data, txLen := BitVec.ofNat 3 data.length, ok := s.answer.completed
      requests := rest, grants := g, transfers := s.transfers.tail, draws := s.draws + 1
      xfer := { completed := s.answer.completed, rxdata := s.answer.rxdata }
      busLog := s.busLog ++ [transaction data 0 s.answer] }

/-- BUS_WRITE_THEN_READ from its request to its result (42_bus_transport.md sections 3, 4). -/
def Obligations.BusWriteThenReadRuns : Prop :=
  ∀ (data : List Byte) (n : BitVec 5) (rest : List Request) (g : List Bool) (s : State),
    s.Requested (.busWriteThenRead data n) rest → 1 ≤ data.length → data.length ≤ 5 → 1 ≤ n.toNat → n.toNat ≤ 18 →
    s.grants = true :: g →
    ∃ t, runSteps 4 s = .next t ∧ t.seq = .idle ∧ t.busOwned = false ∧ t.ok = s.answer.completed ∧
      t.tx = s.tx.write 0 data ∧ t.txLen = BitVec.ofNat 3 data.length ∧
      t.rxLen = (if s.answer.completed then n else 0) ∧
      (s.answer.completed = true → ∀ k b, k < n.toNat → s.answer.rxdata[k]? = some b → t.rx.get k = some b) ∧
      t.busLog = s.busLog ++ [transaction data n.toNat s.answer] ∧ t.requests = rest ∧
      t.crc = s.crc ∧ t.cmd = s.cmd ∧ t.arg = s.arg ∧ t.valid = s.valid ∧ t.fault = s.fault ∧
      t.fCo2 = s.fCo2 ∧ t.fTemp = s.fTemp ∧ t.fHum = s.fHum ∧ t.fRes = s.fRes

/-- START_MEASUREMENT from its request to its result: the bus carries C2 00 10 (43_sensor_commands.md section 2). -/
def Obligations.StartMeasurementRuns : Prop :=
  ∀ (rest : List Request) (g : List Bool) (s : State),
    s.Requested .startMeasurement rest → s.cur = none → s.busOwned = false →
    s.grants = true :: g →
    runSteps 5 s = .next { s with
      cmd := 0x0010, tx := s.tx.write 0 [0x00, 0x10], txLen := 2, ok := s.answer.completed
      requests := rest, grants := g, transfers := s.transfers.tail, draws := s.draws + 1
      xfer := { completed := s.answer.completed, rxdata := s.answer.rxdata }
      busLog := s.busLog ++ [transaction [0x00, 0x10] 0 s.answer] }

/-- SET_INTERVAL and CALIBRATE from their request to their result: the frame is the command code, the argument high byte
first, and the checksum of the argument, which stays in `crc` (43_sensor_commands.md section 2). -/
def Obligations.ArgumentCommandsRun : Prop :=
  ∀ (i : Instr) (c1 c0 : Byte) (v : Half) (rest : List Request) (g : List Bool) (s : State),
    ((i = .setInterval v ∧ c1 = 0x46 ∧ c0 = 0x00) ∨ (i = .calibrate v ∧ c1 = 0x52 ∧ c0 = 0x04)) →
    s.Requested i rest → s.cur = none → s.busOwned = false → s.grants = true :: g →
    runSteps 5 s = .next { s with
      cmd := c1 ++ c0, arg := v, crc := crc8 [hiByte v, loByte v]
      tx := s.tx.write 0 [c1, c0, hiByte v, loByte v, crc8 [hiByte v, loByte v]], txLen := 5
      ok := s.answer.completed, requests := rest, grants := g, transfers := s.transfers.tail, draws := s.draws + 1
      xfer := { completed := s.answer.completed, rxdata := s.answer.rxdata }
      busLog := s.busLog ++ [transaction [c1, c0, hiByte v, loByte v, crc8 [hiByte v, loByte v]] 0 s.answer] }

/-- A successful READ_MEASUREMENTS from its request to its result: six steps, the bus carries C2 03 00 and reads 18 bytes,
and the three floats are those of bytes 0 to 3, 6 to 9, 12 to 15 (43_sensor_commands.md section 3). -/
def Obligations.ReadMeasurementsRuns : Prop :=
  ∀ (b : Nat → Byte) (rest : List Request) (g : List Bool) (s : State),
    s.Requested .readMeasurements rest → s.grants = true :: g → s.answer.completed = true →
    (∀ k, k < 18 → s.answer.rxdata[k]? = some (b k)) →
    ∃ t, runSteps 6 s = .next t ∧ t.seq = .idle ∧ t.busOwned = false ∧ t.ok = true ∧ t.valid = true ∧
      t.fCo2 = b 3 ++ b 2 ++ b 1 ++ b 0 ∧ t.fTemp = b 9 ++ b 8 ++ b 7 ++ b 6 ∧
      t.fHum = b 15 ++ b 14 ++ b 13 ++ b 12 ∧ t.rxLen = 18 ∧ (∀ k, k < 18 → t.rx.get k = some (b k)) ∧
      t.cmd = 0x0300 ∧ t.tx = s.tx.write 0 [0x03, 0x00] ∧ t.txLen = 2 ∧
      t.busLog = s.busLog ++ [transaction [0x03, 0x00] 18 s.answer] ∧ t.requests = rest ∧
      t.fRes = s.fRes ∧ t.crc = s.crc ∧ t.arg = s.arg ∧ t.fault = s.fault

/-- A failed READ_MEASUREMENTS from its request to its result: five steps, `valid = ok = 0`, `rx_len = 0`, and no decode
is tried (43_sensor_commands.md section 3, 60_exceptions.md section 3). -/
def Obligations.FailedReadMeasurementsRuns : Prop :=
  ∀ (rest : List Request) (g : List Bool) (s : State),
    s.Requested .readMeasurements rest → s.grants = true :: g → s.answer.completed = false →
    ∃ t, runSteps 5 s = .next t ∧ t.seq = .idle ∧ t.busOwned = false ∧ t.ok = false ∧ t.valid = false ∧
      t.rxLen = 0 ∧ t.cmd = 0x0300 ∧ t.tx = s.tx.write 0 [0x03, 0x00] ∧ t.txLen = 2 ∧
      t.busLog = s.busLog ++ [transaction [0x03, 0x00] 18 s.answer] ∧ t.requests = rest ∧
      t.fRes = s.fRes ∧ t.crc = s.crc ∧ t.arg = s.arg ∧ t.fault = s.fault

/-- The write-only commands are compositions of the primitives: SET_INTERVAL and CALIBRATE end as CRC8 of the argument
bytes followed by BUS_WRITE of the frame, START_MEASUREMENT as BUS_WRITE of its frame, but for the latches `cmd` and `arg`
(30_encoding.md section 5; the codes are those of section 2). -/
def Obligations.WriteCommandsArePrimitiveCompositions : Prop :=
  ∀ (v : Half) (rest : List Request) (g : List Bool) (s : State) (p : Ports),
    s.inputs = [] → s.seq = .idle → s.cur = none → s.busOwned = false → s.grants = true :: g →
    let frame (hi lo : Byte) : List Byte := [hi, lo, hiByte v, loByte v, crc8 [hiByte v, loByte v]]
    let asPrimitives (hi lo : Byte) : State := { s with requests :=
      ⟨0b000#3, { p with data := [hiByte v, loByte v] }⟩ :: ⟨0b010#3, { p with data := frame hi lo }⟩ :: rest }
    (∃ t, runSteps 5 { s with requests := ⟨0b101#3, { p with arg := v }⟩ :: rest } =
        .next { t with cmd := 0x4600, arg := v } ∧ runSteps 5 (asPrimitives 0x46 0x00) = .next t) ∧
    (∃ t, runSteps 5 { s with requests := ⟨0b110#3, { p with arg := v }⟩ :: rest } =
        .next { t with cmd := 0x5204, arg := v } ∧ runSteps 5 (asPrimitives 0x52 0x04) = .next t) ∧
    (∃ t, runSteps 5 { s with requests := ⟨0b100#3, p⟩ :: rest } = .next { t with cmd := 0x0010 } ∧
      runSteps 4 { s with requests := ⟨0b010#3, { p with data := [0x00, 0x10] }⟩ :: rest } = .next t)

/-- READ_MEASUREMENTS is BUS_WRITE_THEN_READ of 03 00 with 18 bytes read, the latch `cmd` apart: on success followed by
DECODE_FLOAT at 0, 6 and 12 into the sample registers in place of `fres`, with `valid <- 1`; on failure by `valid <- 0`
alone, with the three floats unspecified (30_encoding.md section 5; the codes are those of section 2; the unspecified
floats are free values drawn by the counter `draws`, notes/assumptions/4, and nothing is said of them). -/
def Obligations.ReadCommandIsPrimitiveComposition : Prop :=
  ∀ (rest : List Request) (g : List Bool) (s : State) (p : Ports),
    s.inputs = [] → s.seq = .idle → s.cur = none → s.busOwned = false → s.grants = true :: g →
    let command : State := { s with requests := ⟨0b111#3, p⟩ :: rest }
    let primitive : State :=
      { s with requests := ⟨0b011#3, { p with data := [0x03, 0x00], readLen := 18 }⟩ :: rest }
    (s.answer.completed = true →
      ∃ t u, runSteps 6 command = .next t ∧ runSteps 4 primitive = .next u ∧
        t = { u with cmd := 0x0300, valid := true, fCo2 := t.fCo2, fTemp := t.fTemp, fHum := t.fHum } ∧
        exec (.decodeFloat 0) u = .next { u with fRes := t.fCo2 } ∧
        exec (.decodeFloat 6) u = .next { u with fRes := t.fTemp } ∧
        exec (.decodeFloat 12) u = .next { u with fRes := t.fHum }) ∧
    (s.answer.completed = false →
      ∃ t u, runSteps 5 command = .next t ∧ runSteps 4 primitive = .next u ∧
        t = { u with
          cmd := 0x0300, valid := false, fCo2 := t.fCo2, fTemp := t.fTemp, fHum := t.fHum, draws := t.draws })

/-! ## Frames of the operations: what each leaves unchanged -/

/-- BUS_WRITE and BUS_WRITE_THEN_READ leave `crc`, `cmd`, `arg`, `valid`, `fault` and the four float registers unchanged at
every step, and every byte of `TX` outside the bytes they store; BUS_WRITE also `RX` and `rx_len` (10_state.md section 7). -/
def Obligations.RawTransportFrame : Prop :=
  (∀ (data : List Byte) (s t : State), exec (.busWrite data) s = .next t →
    t.crc = s.crc ∧ t.cmd = s.cmd ∧ t.arg = s.arg ∧ t.valid = s.valid ∧ t.fault = s.fault ∧ t.fCo2 = s.fCo2 ∧
    t.fTemp = s.fTemp ∧ t.fHum = s.fHum ∧ t.fRes = s.fRes ∧ t.rxLen = s.rxLen ∧
    (∀ k, t.rx.get k = s.rx.get k) ∧ (∀ k, data.length ≤ k → t.tx.get k = s.tx.get k)) ∧
  (∀ (data : List Byte) (n : BitVec 5) (s t : State), exec (.busWriteThenRead data n) s = .next t →
    t.crc = s.crc ∧ t.cmd = s.cmd ∧ t.arg = s.arg ∧ t.valid = s.valid ∧ t.fault = s.fault ∧ t.fCo2 = s.fCo2 ∧
    t.fTemp = s.fTemp ∧ t.fHum = s.fHum ∧ t.fRes = s.fRes ∧
    (∀ k, 18 ≤ k → t.rx.get k = s.rx.get k) ∧ (∀ k, data.length ≤ k → t.tx.get k = s.tx.get k))

/-- The write-only commands leave `RX`, `rx_len`, `valid`, `fault` and the four float registers unchanged at every step, and
every byte of `TX` outside their frame; START_MEASUREMENT also `crc` and `arg` (10_state.md section 7). -/
def Obligations.WriteCommandFrame : Prop :=
  ∀ (i : Instr) (s t : State), (i = .startMeasurement ∨ (∃ a, i = .setInterval a) ∨ (∃ a, i = .calibrate a)) →
    exec i s = .next t →
    t.valid = s.valid ∧ t.fault = s.fault ∧ t.fCo2 = s.fCo2 ∧ t.fTemp = s.fTemp ∧ t.fHum = s.fHum ∧
    t.fRes = s.fRes ∧ t.rxLen = s.rxLen ∧ (∀ k, t.rx.get k = s.rx.get k) ∧
    (∀ k, (opBytes i).length ≤ k → t.tx.get k = s.tx.get k) ∧
    (i = .startMeasurement → t.crc = s.crc ∧ t.arg = s.arg)

/-- READ_MEASUREMENTS leaves `fres`, `crc` and `arg` unchanged at every step, every byte of `TX` outside its two-byte frame
and every byte of `RX` outside the response; in a state that meets the invariant also `fault` (10_state.md section 7,
43_sensor_commands.md section 3). -/
def Obligations.ReadCommandFrame : Prop :=
  ∀ (s t : State), exec .readMeasurements s = .next t →
    t.fRes = s.fRes ∧ t.crc = s.crc ∧ t.arg = s.arg ∧ (∀ k, 2 ≤ k → t.tx.get k = s.tx.get k) ∧
    (∀ k, 18 ≤ k → t.rx.get k = s.rx.get k) ∧ (s.Inv → t.fault = s.fault)

/-- A frame on the bus is the address byte and then the frame's bytes in order, whatever its CRC byte: in `TRANSFER` each of
the four frames completes as one transfer, and no register, buffer or flag of the block other than the sequencer changes;
in any other phase nothing goes out and nothing changes (42_bus_transport.md section 2, 30_encoding.md sections 3, 4; that
a frame outside `TRANSFER` waits is the model's choice, notes/assumptions/9). -/
def Obligations.WireFramesGoOut : Prop :=
  ∀ (s : State) (v : Half) (c : Byte),
    let sent (bytes : List Byte) : State := { s with
      transfers := s.transfers.tail, draws := s.draws + 1
      xfer := { completed := s.answer.completed, rxdata := s.answer.rxdata }
      busLog := s.busLog ++ [transaction bytes s.readCount s.answer], seq := .release }
    (s.seq = .transfer →
      exec .wireStartMeasurement s = .next (sent [0x00, 0x10]) ∧
      exec .wireReadMeasurements s = .next (sent [0x03, 0x00]) ∧
      exec (.wireSetInterval v c) s = .next (sent [0x46, 0x00, hiByte v, loByte v, c]) ∧
      exec (.wireCalibrate v c) s = .next (sent [0x52, 0x04, hiByte v, loByte v, c])) ∧
    (s.seq ≠ .transfer →
      exec .wireStartMeasurement s = .next s ∧ exec .wireReadMeasurements s = .next s ∧
      exec (.wireSetInterval v c) s = .next s ∧ exec (.wireCalibrate v c) s = .next s)

/-! ## The step -/

/-- In `IDLE` a step takes the request presented off the interface and runs the operation it selects (30_encoding.md
section 2). -/
def Obligations.StepRunsPresentedRequest : Prop :=
  ∀ (r : Request) (rest : List Request) (i : Instr) (s : State), s.inputs = [] → s.seq = .idle →
    s.requests = r :: rest → decode (.request r) = .ok i → step s = exec i { s with requests := rest }

/-- In `TRANSFER` a step runs the frame that stands in `TX`; in every other phase outside `IDLE` it runs the operation in
progress (10_state.md section 2, 42_bus_transport.md section 2; taking a frame as an instruction is the model's choice,
notes/assumptions/8). -/
def Obligations.StepRunsFrameOrOperation : Prop :=
  (∀ (i : Instr) (s : State), s.inputs = [] → s.seq = .transfer → decode (.frame s.txBytes) = .ok i →
    step s = exec i s) ∧
  (∀ (i : Instr) (s : State), s.inputs = [] → s.cur = some i → s.seq ≠ .idle → s.seq ≠ .transfer →
    step s = exec i s)

/-- The block does not inspect what it transmits: a step in `TRANSFER` sends the bytes of the operation in progress in the
same way whether or not they are a command frame (30_encoding.md section 4). -/
def Obligations.TransferInspectsNothing : Prop :=
  ∀ (i : Instr) (s : State), s.Inv → s.inputs = [] → s.cur = some i → s.seq = .transfer →
    step s = .next { s with
      transfers := s.transfers.tail, draws := s.draws + 1
      xfer := { completed := s.answer.completed, rxdata := s.answer.rxdata }
      busLog := s.busLog ++ [transaction (opBytes i) (opReadLen i) s.answer], seq := .release }

/-- A request presented while the block is busy is held, unchanged: no step outside `IDLE` touches the request interface,
and an operation that is not the one in progress does nothing (30_encoding.md section 2; that the reset event too, which
may come at such a step, keeps the request presented is the model's choice, notes/assumptions/14, and no rule). -/
def Obligations.BusyBlockHoldsRequests : Prop :=
  (∀ (s t : State), s.Inv → s.seq ≠ .idle → step s = .next t → t.requests = s.requests) ∧
  (∀ (r : Request) (s : State), s.seq ≠ .idle → s.cur ≠ some (decodeRequest r) →
    exec (decodeRequest r) s = .next s)

/-! ## Whole-machine rules -/

/-- After reset: the sequencer in `IDLE`, `crc` = 0xFF, both lengths 0, all four flags 0, both buffers without a value
(10_state.md section 6; the registers that hold no value are free values, notes/assumptions/3, and nothing is said of
them). -/
def Obligations.ResetValues : Prop :=
  State.reset.seq = .idle ∧ State.reset.crc = 0xFF ∧ State.reset.txLen = 0 ∧ State.reset.rxLen = 0 ∧
  State.reset.ok = false ∧ State.reset.valid = false ∧ State.reset.fault = false ∧ State.reset.busOwned = false ∧
  (∀ k, State.reset.tx.get k = none) ∧ (∀ k, State.reset.rx.get k = none)

/-- The reset event takes the block to its reset values from any phase, abandons the operation, releases the bus, clears
`fault`, and leaves the target with an initial part of a frame that was being sent (70_reset_and_hazards.md section 1; that
the request interface and the worker stay as they are is the model's choice, notes/assumptions/14, and no rule). -/
def Obligations.ResetEventFromAnyState : Prop :=
  ∀ (rest : List Input) (s : State), s.inputs = .reset :: rest →
    ∃ t, step s = .next t ∧ t.seq = .idle ∧ t.cur = none ∧ t.crc = 0xFF ∧ t.txLen = 0 ∧ t.rxLen = 0 ∧
      t.ok = false ∧ t.valid = false ∧ t.fault = false ∧ t.busOwned = false ∧ (∀ k, t.tx.get k = none) ∧
      (∀ k, t.rx.get k = none) ∧ t.inputs = rest ∧ t.requests = s.requests ∧ t.worker = s.worker ∧
      (s.seq ≠ .transfer → t.busLog = s.busLog) ∧
      (s.seq = .transfer → ∃ x, t.busLog = s.busLog ++ [x] ∧ x.written = s.txBytes ∧ x.completed = false ∧
        x.received <+: s.txBytes)

/-- Every step keeps the invariant of the block. -/
def Obligations.StepKeepsBlockInvariant : Prop :=
  ∀ (s t : State), s.Inv → step s = .next t → t.Inv

/-- The reset state meets the invariant of the block and that of the host. -/
def Obligations.ResetMeetsInvariants : Prop := State.reset.Inv ∧ State.reset.HostInv

/-- No step from a state that meets the invariant stops with one of the model's own faults. -/
def Obligations.NoStepFaults : Prop :=
  ∀ (s : State) (f : Fault), s.Inv → step s ≠ .fault f

/-- The sequencer moves only along the arrows of R197, or to `IDLE` by reset; it leaves `ACQUIRE` only by a grant, and
`DECODE` is reached only by a completed READ_MEASUREMENTS (70_reset_and_hazards.md section 3). -/
def Obligations.SequencerFollowsArrows : Prop :=
  ∀ (s t : State), s.Inv → step s = .next t →
    (s.resetting ∧ t.seq = .idle) ∨
    (t.seq = s.seq ∧ t.cur = s.cur) ∨
    (arrow s.seq t.seq = true ∧
      (s.seq = .acquire → ∃ g, s.grants = true :: g ∧ t.seq = .transfer) ∧
      (t.seq = .decode → s.cur = some .readMeasurements ∧ s.xfer.completed = true))

/-- `fault` is cleared by no operation: only the reset event clears it (10_state.md section 3, 60_exceptions.md section 1). -/
def Obligations.FaultIsSticky : Prop :=
  ∀ (s t : State), s.fault = true → step s = .next t → s.resetting ∨ t.fault = true

/-- `fault` is raised only by a DECODE_FLOAT out of bounds (60_exceptions.md section 1). -/
def Obligations.OnlyDecodeFloatRaisesFault : Prop :=
  ∀ (s t : State), s.Inv → s.fault = false → step s = .next t → t.fault = true →
    s.seq = .idle ∧ ∃ r rest off, s.requests = r :: rest ∧ decodeRequest r = .decodeFloat off ∧
      off.toNat + 4 > s.rxLen.toNat

/-- The block puts something on the bus only while it owns it: the record of the bus grows only by a transfer of the
operation in progress, addressed to 0xC2, carrying exactly that operation's bytes; the target gets all of them if the
transfer completed and an initial part otherwise (20_memory.md section 6, 42_bus_transport.md sections 2, 3). -/
def Obligations.BusCarriesOnlyOwnedTransfers : Prop :=
  ∀ (s t : State), s.Inv → step s = .next t →
    t.busLog = s.busLog ∨
    (s.seq = .transfer ∧ s.busOwned = true ∧ ∃ i x, s.cur = some i ∧ t.busLog = s.busLog ++ [x] ∧
      x.address = 0xC2 ∧ x.written = opBytes i ∧ x.readLen = opReadLen i ∧ x.received <+: x.written ∧
      (x.completed = true → x.received = x.written))

/-- Without a grant the block waits in `ACQUIRE` for ever: no number of steps changes anything (60_exceptions.md
section 7, 42_bus_transport.md section 2). -/
def Obligations.NoGrantNoProgress : Prop :=
  ∀ (n : Nat) (s : State), s.Inv → s.inputs = [] → s.seq = .acquire → s.grants = [] → runSteps n s = .next s

/-- Once the bus is granted an operation always ends: from any phase, with a grant ready for a block that still waits, the
block is in `IDLE` again within five steps, whatever the transfer's outcome (60_exceptions.md section 7,
42_bus_transport.md section 5). -/
def Obligations.GrantedOperationEnds : Prop :=
  ∀ (s : State), s.Inv → s.inputs = [] → s.seq ≠ .idle →
    ((s.seq = .encode ∨ s.seq = .acquire) → ∃ g, s.grants = true :: g) →
    ∃ n t, n ≤ 5 ∧ runSteps n s = .next t ∧ t.seq = .idle ∧ t.busOwned = false

/-! ## The host -/

/-- The publication test: a pattern counts as greater than 0 iff it is a finite number above 0 or positive infinity
(45_host_polling_worker.md section 3, 92_eei_decisions.md D27; the reading of a pattern as a number is general knowledge,
notes/assumptions/18). -/
def Obligations.PublicationTestIsNumeric : Prop :=
  ∀ v : Word32, Binary32.gtZero v = true ↔
    (∃ q : Rat, Binary32.value v = some q ∧ 0 < q) ∨ (Binary32.isInf v = true ∧ Binary32.sign v = false)

/-- Every step keeps the invariant of the host: a published Sample is valid with CO2 above 0, and until one is published
the placeholder stands (45_host_polling_worker.md sections 1, 3; that the worker and what it published outlast the reset
event is the model's choice, notes/assumptions/14, and no rule). -/
def Obligations.StepKeepsHostInvariant : Prop :=
  ∀ (s t : State), s.HostInv → step s = .next t → t.HostInv

/-- `has_unread` is true for ever after the first publication, and `interval_ms` never changes
(45_host_polling_worker.md sections 3, 6; that the worker, with both, outlasts the reset event is the model's choice,
notes/assumptions/14, and no rule). -/
def Obligations.HasUnreadNeverCleared : Prop :=
  ∀ (w : Worker) (s t : State), s.worker = some w → step s = .next t →
    ∃ w', t.worker = some w' ∧ w'.intervalMs = w.intervalMs ∧ (w.hasUnread = true → w'.hasUnread = true)

/-- The start-up sequence: START_MEASUREMENT, then SET_INTERVAL of `interval_ms/1000`, then the loop, stated of the steps at
which the block is idle with no request presented and no input (45_host_polling_worker.md section 2; that the loop thread
moves at those steps is the model's choice of how it interleaves with the block, notes/assumptions/19). -/
def Obligations.WorkerStartsUpInOrder : Prop :=
  ∀ (w : Worker) (s : State), s.inputs = [] → s.seq = .idle → s.requests = [] → s.worker = some w →
    (w.pos = .sendStart → ∃ r, decodeRequest r = .startMeasurement ∧
      step s = .next { s with requests := [r], worker := some { w with pos := .sendInterval } }) ∧
    (w.pos = .sendInterval → ∃ r, decodeRequest r = .setInterval (BitVec.ofNat 16 (w.intervalMs / 1000)) ∧
      step s = .next { s with requests := [r], worker := some { w with pos := .top } })

/-- One iteration of the loop, in the order read, publish, calibrate, sleep, with `running` tested only before it; a
pending calibration is issued with its value and then reset to 0, stated of the steps at which the block is idle with no
request presented and no input (45_host_polling_worker.md sections 3, 6; that the loop thread moves at those steps, and in
moves of this size, is the model's choice, notes/assumptions/19). -/
def Obligations.WorkerLoopInOrder : Prop :=
  ∀ (w : Worker) (s : State), s.inputs = [] → s.seq = .idle → s.requests = [] → s.worker = some w →
    (w.pos = .top → w.running = true →
      step s = .next { s with worker := some { w with pos := .sendRead } }) ∧
    (w.pos = .top → w.running = false →
      step s = .next { s with worker := some { w with pos := .stopped, stopWaiting := false } }) ∧
    (w.pos = .sendRead → ∃ r, decodeRequest r = .readMeasurements ∧
      step s = .next { s with requests := [r], worker := some { w with pos := .copyOut } }) ∧
    (w.pos = .copyOut → ∃ x, x.co2 = s.fCo2 ∧ x.temp = s.fTemp ∧ x.hum = s.fHum ∧ x.valid = s.valid ∧
      step s = .next { s with draws := s.draws + 1, worker := some { w with reading := x, pos := .publish } }) ∧
    (w.pos = .publish → w.reading.valid = true → Binary32.gtZero w.reading.co2 = true →
      step s = .next { s with
        worker := some { w with latestSample := w.reading, hasUnread := true, pos := .calibrate } }) ∧
    (w.pos = .publish → ¬ (w.reading.valid = true ∧ Binary32.gtZero w.reading.co2 = true) →
      step s = .next { s with worker := some { w with pos := .calibrate } }) ∧
    (w.pos = .calibrate → w.pendingCalibration = 0 →
      step s = .next { s with worker := some { w with pos := .sleep } }) ∧
    (w.pos = .calibrate → w.pendingCalibration ≠ 0 → ∃ r, decodeRequest r = .calibrate w.pendingCalibration ∧
      step s = .next { s with
        requests := [r], worker := some { w with pos := .clearPending, lateRequest := false } }) ∧
    (w.pos = .clearPending → w.lateRequest = false →
      step s = .next { s with
        draws := s.draws + 1, worker := some { w with pendingCalibration := 0, pos := .sleep } }) ∧
    (w.pos = .sleep → step s = .next { s with worker := some { w with pos := .top } })

/-- After `stop()` has returned the worker issues nothing and writes nothing: with no request and no call, nothing changes
(45_host_polling_worker.md section 2). -/
def Obligations.StoppedWorkerIsSilent : Prop :=
  ∀ (n : Nat) (w : Worker) (s : State), s.inputs = [] → s.seq = .idle → s.requests = [] → s.worker = some w →
    w.pos = .stopped → runSteps n s = .next s

/-- A consumer call never issues an operation and never touches the block (45_host_polling_worker.md section 6). -/
def Obligations.ConsumerNeverTouchesBlock : Prop :=
  ∀ (c : ConsumerCall) (s t : State), s.consumerCall c = .next t →
    t = { s with worker := t.worker, consumer := t.consumer }

/-- Each call on a worker that exists: a second construction is refused, as is a call the source does not describe; a
later `request_calibration` overwrites an earlier one; `take_sample` and the logger's look append one four-field record to
the log exactly when the latest Sample is one to forward and its timestamp differs from the last record's, and no step but
a call writes the log; while a caller of `stop()` waits every call but `request_calibration` stays first and the machine
goes on (45_host_polling_worker.md sections 2, 6, 93_implementation_defined.md U13). The model's choices in it: how calls
and steps interleave and which calls wait, notes/assumptions/19; that taking a Sample logs it in the same step, and that
the placeholder is one to forward or not by a free value, notes/assumptions/28; that a reset keeps the consumer,
notes/assumptions/14. -/
def Obligations.ConsumerCalls : Prop :=
  ∀ (w : Worker) (s : State), s.worker = some w →
    (∀ ms, s.consumerCall (.construct ms) = .refused .workerExists) ∧
    (w.started = false → s.consumerCall .start =
      .next { s with worker := some { w with running := true, started := true, pos := .sendStart } }) ∧
    (w.started = true → w.running = true → s.consumerCall .start = .refused .startWhenRunning) ∧
    (w.started = true → w.running = false → s.consumerCall .start = .refused .restart) ∧
    (w.running = true → s.consumerCall .stop =
      .next { s with worker := some { w with running := false, stopWaiting := true } }) ∧
    (w.running = false → s.consumerCall .stop = .refused .stopWhenStopped) ∧
    (∀ p, s.consumerCall (.requestCalibration p) = .next { s with
      worker := some { w with pendingCalibration := p, lateRequest := decide (w.pos = .clearPending) } }) ∧
    (∀ p q t, s.consumerCall (.requestCalibration p) = .next t →
      ∃ u w', t.consumerCall (.requestCalibration q) = .next u ∧ u.worker = some w' ∧ w'.pendingCalibration = q) ∧
    s.consumerCall .hasUnreadSample =
      .next { s with consumer := { s.consumer with answer := .unread w.hasUnread } } ∧
    (∃ log, s.consumerCall .takeSample =
        .next { s with consumer := { answer := .sample w.latestSample, log := log } } ∧
      s.consumerCall .logSample = .next { s with consumer := { s.consumer with log := log } } ∧
      let toForward := (w.hasUnread = true ∨ Config.logsPlaceholder = true) ∧
        ∀ r, s.consumer.log.getLast? = some r → r.timestamp ≠ w.latestSample.timestamp
      (toForward → log = s.consumer.log ++
        [⟨w.latestSample.timestamp, w.latestSample.co2, w.latestSample.temp, w.latestSample.hum⟩]) ∧
      (¬ toForward → log = s.consumer.log)) ∧
    (∀ c rest, s.inputs = .call c :: rest → w.stopWaiting = true → (∀ p, c ≠ .requestCalibration p) →
      step s = s.advance ∧ ∀ t, step s = .next t → t.inputs = s.inputs ∧ t.consumer = s.consumer) ∧
    (∀ c rest, s.inputs = .call c :: rest → (w.stopWaiting = false ∨ ∃ p, c = .requestCalibration p) →
      step s = ({ s with inputs := rest } : State).consumerCall c) ∧
    (∀ t, (∀ c rest, s.inputs ≠ .call c :: rest) → step s = .next t → t.consumer = s.consumer)

/-- A worker is constructed Stopped with nothing pending and nothing published, for an `interval_ms` above 0 whose quotient
by 1000 fits 16 bits, and refused otherwise (45_host_polling_worker.md sections 1, 3, 92_eei_decisions.md D26, D29). -/
def Obligations.WorkerConstruction : Prop :=
  ∀ (ms : Nat) (s : State), s.worker = none →
    (0 < ms → ms / 1000 ≤ 65535 → ∃ w, s.consumerCall (.construct ms) = .next { s with worker := some w } ∧
      w.intervalMs = ms ∧ w.running = false ∧ w.pos = .stopped ∧ w.hasUnread = false ∧ w.pendingCalibration = 0 ∧
      w.latestSample.valid = false) ∧
    (ms = 0 ∨ 65535 < ms / 1000 → s.consumerCall (.construct ms) = .refused .badInterval)

/-- Other traffic that the host starts on the block's bus handle: refused at every step of an operation, and without effect
on a block in `IDLE` (70_reset_and_hazards.md section 4, 93_implementation_defined.md U12; how such traffic is signalled,
and that it leaves an idle block alone, is the model's choice, notes/assumptions/22). -/
def Obligations.ForeignTrafficOnBusHandle : Prop :=
  ∀ (rest : List Input) (s : State), s.inputs = .foreignTraffic :: rest →
    (s.seq ≠ .idle → step s = .refused .busInterleaved) ∧
    (s.seq = .idle → step s = .next { s with inputs := rest })
end

