-- ==== Sys2Proof/Laws/Crc.lean ====
section
/-! SUPPORT. The CRC-8 generator: rounds of zero, and the step from a sequence to a longer one (spec/40_crc8.md R82, R86). -/

namespace Sys2Proof.Machine

@[simp] theorem crc8_nil : crc8 [] = 0xFF#8 := rfl

/-- The checksum of a longer sequence is one byte step further (R86). -/
theorem crc8_append_byte (s : List Byte) (b : Byte) : crc8 (s ++ [b]) = crcByte (crc8 s) b := by
  simp [crc8, List.foldl_append]

/-- Eight rounds of 0 are 0, so a byte equal to the accumulator takes it to 0 (R87). -/
theorem crcByte_self (a : Byte) : crcByte a a = 0 := by
  simp only [crcByte, BitVec.xor_self]
  decide

/-- Nothing but 0 goes to 0 in eight rounds: a byte step ends in 0 only for the accumulator's own value. -/
theorem crcByte_eq_zero {a b : Byte} (h : crcByte a b = 0) : b = a := by
  have inj : ∀ x : Byte, crcRounds 8 x = 0 → x = 0 := by decide
  have := inj (a ^^^ b) h
  exact (BitVec.xor_eq_zero_iff.1 this).symm

end Sys2Proof.Machine
end

