-- ==== Sys2Proof/Laws/Memory.lean ====
section
/-! SUPPORT. The laws of the byte buffers: read after write, a write leaves every other address alone, and every memory
operation keeps the canonical form. -/

namespace Sys2Proof.Machine

@[simp] theorem Memory.get_nil (a : Nat) : Memory.get [] a = none := rfl

/-- A read after a write of one byte: the written byte there, the earlier one elsewhere. -/
theorem Memory.get_set (m : Memory) (a : Nat) (v : Byte) (k : Nat) :
    (m.set a v).get k = if k = a then some v else m.get k := by
  induction m with
  | nil => simp only [Memory.set, Memory.get, eq_comm]
  | cons c m ih =>
    obtain ⟨a', b⟩ := c
    simp only [Memory.set]
    split
    · simp only [Memory.get, eq_comm (a := a)]
    · split
      · next h => subst h; simp only [Memory.get, eq_comm (a := a)]; split <;> rfl
      · next h =>
        simp only [Memory.get, ih]
        by_cases hk : a' = k
        · rw [if_pos hk, if_neg (by omega), if_pos hk]
        · rw [if_neg hk, if_neg hk]

/-- Where the cells of a buffer lie after a write of one byte. -/
theorem Memory.mem_set {m : Memory} {a : Nat} {v : Byte} {c : Host.Cell} (h : c ∈ m.set a v) :
    c = (a, v) ∨ c ∈ m := by
  induction m with
  | nil => simpa [Memory.set] using h
  | cons d m ih =>
    obtain ⟨k, b⟩ := d
    simp only [Memory.set] at h
    split at h
    · simpa using h
    · split at h
      · rcases List.mem_cons.1 h with h | h <;> simp [h]
      · rcases List.mem_cons.1 h with h | h
        · simp [h]
        · rcases ih h with h | h <;> simp [h]

/-- A write of one byte below the capacity keeps the canonical form. -/
theorem Memory.wf_set {cap : Nat} {m : Memory} {a : Nat} (v : Byte) (h : m.wf cap) (ha : a < cap) :
    (m.set a v).wf cap := by
  refine ⟨?_, fun c hc => ?_⟩
  · have hs := h.1
    clear h
    induction m with
    | nil => simp [Memory.set]
    | cons d m ih =>
      obtain ⟨k, b⟩ := d
      obtain ⟨h1, h2⟩ := List.pairwise_cons.1 hs
      simp only [Memory.set]
      split
      · refine List.pairwise_cons.2 ⟨fun c hc => ?_, hs⟩
        rcases List.mem_cons.1 hc with hc | hc
        · simpa [hc]
        · have := h1 c hc
          simp only at this ⊢
          omega
      · split
        · refine List.pairwise_cons.2 ⟨fun c hc => ?_, h2⟩
          have := h1 c hc
          simp_all
        · refine List.pairwise_cons.2 ⟨fun c hc => ?_, ih h2⟩
          rcases Memory.mem_set hc with hc | hc
          · simp only [hc]; omega
          · exact h1 c hc
  · rcases Memory.mem_set hc with hc | hc
    · simpa [hc] using ha
    · exact h.2 c hc

/-- A write inside the capacity keeps the canonical form. -/
theorem Memory.wf_write {cap : Nat} {vs : List Byte} {m : Memory} {a : Nat} (h : m.wf cap) (ha : a + vs.length ≤ cap) :
    (m.write a vs).wf cap := by
  induction vs generalizing m a with
  | nil => exact h
  | cons v vs ih =>
    simp only [List.length_cons] at ha
    exact ih (Memory.wf_set v h (by omega)) (by omega)

/-- A read after a write of several bytes: the written byte at each address it covers, the earlier one elsewhere. -/
theorem Memory.get_write (m : Memory) (a : Nat) (vs : List Byte) (k : Nat) :
    (m.write a vs).get k = if a ≤ k ∧ k < a + vs.length then vs[k - a]? else m.get k := by
  induction vs generalizing m a with
  | nil => simp only [Memory.write, List.length_nil]; rw [if_neg (by omega)]
  | cons v vs ih =>
    simp only [Memory.write, List.length_cons]
    rw [ih, Memory.get_set m a v k]
    by_cases h1 : k = a
    · subst h1
      rw [if_neg (by omega), if_pos rfl, if_pos (by omega)]
      simp
    · by_cases h2 : a + 1 ≤ k ∧ k < a + 1 + vs.length
      · rw [if_pos h2, if_pos (by omega), show k - a = (k - (a + 1)) + 1 by omega]
        simp
      · rw [if_neg h2, if_neg h1, if_neg (by omega)]

/-- A buffer that holds a value at `n` addresses from `a` on reads as `n` bytes, each the byte at its address. -/
theorem Memory.readBytes_of_filled {m : Memory} {n a : Nat} (h : ∀ k, a ≤ k → k < a + n → (m.get k).isSome) :
    ∃ bs, m.readBytes a n = some bs ∧ bs.length = n ∧ ∀ k, k < n → bs[k]? = m.get (a + k) := by
  induction n generalizing a with
  | zero => exact ⟨[], rfl, rfl, fun k hk => absurd hk (by omega)⟩
  | succ n ih =>
    obtain ⟨bs, h1, h2, h3⟩ := ih (a := a + 1) (fun k hk hk' => h k (by omega) (by omega))
    obtain ⟨b, hb⟩ := Option.isSome_iff_exists.1 (h a (by omega) (by omega))
    refine ⟨b :: bs, by simp [Memory.readBytes, hb, h1], by simp [h2], fun k hk => ?_⟩
    cases k with
    | zero => simp [hb]
    | succ k =>
      rw [List.getElem?_cons_succ, h3 k (by omega)]
      congr 1
      omega

/-- What a read of several bytes that has a result says of each address. -/
theorem Memory.get_of_readBytes {m : Memory} {n a : Nat} {bs : List Byte} (h : m.readBytes a n = some bs) :
    bs.length = n ∧ ∀ k, k < n → m.get (a + k) = bs[k]? := by
  induction n generalizing a bs with
  | zero =>
    simp only [Memory.readBytes, Option.some.injEq] at h
    subst h
    exact ⟨rfl, fun k hk => absurd hk (by omega)⟩
  | succ n ih =>
    simp only [Memory.readBytes] at h
    split at h
    · next b bs' hb hbs =>
      simp only [Option.some.injEq] at h
      subst h
      obtain ⟨h1, h2⟩ := ih hbs
      refine ⟨by simp [h1], fun k hk => ?_⟩
      cases k with
      | zero => simpa using hb
      | succ k =>
        rw [List.getElem?_cons_succ, ← h2 k (by omega)]
        congr 1
        omega
    · exact absurd h (by simp)

end Sys2Proof.Machine
end

