-- ==== Sys2Proof/Laws/State.lean ====
section
/-! SUPPORT. One lemma per field per update of the state, true by unfolding, so that no proof unfolds a record update. -/

namespace Sys2Proof.Machine

variable (s : State)

/-! ## `State.enter` -/

@[simp] theorem enter_seq (i : Instr) (p : Phase) : (s.enter i p).seq = p := rfl
@[simp] theorem enter_crc (i : Instr) (p : Phase) : (s.enter i p).crc = s.crc := rfl
@[simp] theorem enter_cmd (i : Instr) (p : Phase) : (s.enter i p).cmd = s.cmd := rfl
@[simp] theorem enter_arg (i : Instr) (p : Phase) : (s.enter i p).arg = s.arg := rfl
@[simp] theorem enter_tx (i : Instr) (p : Phase) : (s.enter i p).tx = s.tx := rfl
@[simp] theorem enter_txLen (i : Instr) (p : Phase) : (s.enter i p).txLen = s.txLen := rfl
@[simp] theorem enter_rx (i : Instr) (p : Phase) : (s.enter i p).rx = s.rx := rfl
@[simp] theorem enter_rxLen (i : Instr) (p : Phase) : (s.enter i p).rxLen = s.rxLen := rfl
@[simp] theorem enter_ok (i : Instr) (p : Phase) : (s.enter i p).ok = s.ok := rfl
@[simp] theorem enter_valid (i : Instr) (p : Phase) : (s.enter i p).valid = s.valid := rfl
@[simp] theorem enter_fault (i : Instr) (p : Phase) : (s.enter i p).fault = s.fault := rfl
@[simp] theorem enter_busOwned (i : Instr) (p : Phase) : (s.enter i p).busOwned = s.busOwned := rfl
@[simp] theorem enter_fCo2 (i : Instr) (p : Phase) : (s.enter i p).fCo2 = s.fCo2 := rfl
@[simp] theorem enter_fTemp (i : Instr) (p : Phase) : (s.enter i p).fTemp = s.fTemp := rfl
@[simp] theorem enter_fHum (i : Instr) (p : Phase) : (s.enter i p).fHum = s.fHum := rfl
@[simp] theorem enter_fRes (i : Instr) (p : Phase) : (s.enter i p).fRes = s.fRes := rfl
@[simp] theorem enter_cur (i : Instr) (p : Phase) : (s.enter i p).cur = some i := rfl
@[simp] theorem enter_xfer (i : Instr) (p : Phase) : (s.enter i p).xfer = s.xfer := rfl
@[simp] theorem enter_requests (i : Instr) (p : Phase) : (s.enter i p).requests = s.requests := rfl
@[simp] theorem enter_grants (i : Instr) (p : Phase) : (s.enter i p).grants = s.grants := rfl
@[simp] theorem enter_transfers (i : Instr) (p : Phase) : (s.enter i p).transfers = s.transfers := rfl
@[simp] theorem enter_inputs (i : Instr) (p : Phase) : (s.enter i p).inputs = s.inputs := rfl
@[simp] theorem enter_draws (i : Instr) (p : Phase) : (s.enter i p).draws = s.draws := rfl
@[simp] theorem enter_busLog (i : Instr) (p : Phase) : (s.enter i p).busLog = s.busLog := rfl
@[simp] theorem enter_worker (i : Instr) (p : Phase) : (s.enter i p).worker = s.worker := rfl
@[simp] theorem enter_consumer (i : Instr) (p : Phase) : (s.enter i p).consumer = s.consumer := rfl

/-! ## `State.goto` -/

@[simp] theorem goto_seq (p : Phase) : (s.goto p).seq = p := rfl
@[simp] theorem goto_crc (p : Phase) : (s.goto p).crc = s.crc := rfl
@[simp] theorem goto_cmd (p : Phase) : (s.goto p).cmd = s.cmd := rfl
@[simp] theorem goto_arg (p : Phase) : (s.goto p).arg = s.arg := rfl
@[simp] theorem goto_tx (p : Phase) : (s.goto p).tx = s.tx := rfl
@[simp] theorem goto_txLen (p : Phase) : (s.goto p).txLen = s.txLen := rfl
@[simp] theorem goto_rx (p : Phase) : (s.goto p).rx = s.rx := rfl
@[simp] theorem goto_rxLen (p : Phase) : (s.goto p).rxLen = s.rxLen := rfl
@[simp] theorem goto_ok (p : Phase) : (s.goto p).ok = s.ok := rfl
@[simp] theorem goto_valid (p : Phase) : (s.goto p).valid = s.valid := rfl
@[simp] theorem goto_fault (p : Phase) : (s.goto p).fault = s.fault := rfl
@[simp] theorem goto_busOwned (p : Phase) : (s.goto p).busOwned = s.busOwned := rfl
@[simp] theorem goto_fCo2 (p : Phase) : (s.goto p).fCo2 = s.fCo2 := rfl
@[simp] theorem goto_fTemp (p : Phase) : (s.goto p).fTemp = s.fTemp := rfl
@[simp] theorem goto_fHum (p : Phase) : (s.goto p).fHum = s.fHum := rfl
@[simp] theorem goto_fRes (p : Phase) : (s.goto p).fRes = s.fRes := rfl
@[simp] theorem goto_cur (p : Phase) : (s.goto p).cur = s.cur := rfl
@[simp] theorem goto_xfer (p : Phase) : (s.goto p).xfer = s.xfer := rfl
@[simp] theorem goto_requests (p : Phase) : (s.goto p).requests = s.requests := rfl
@[simp] theorem goto_grants (p : Phase) : (s.goto p).grants = s.grants := rfl
@[simp] theorem goto_transfers (p : Phase) : (s.goto p).transfers = s.transfers := rfl
@[simp] theorem goto_inputs (p : Phase) : (s.goto p).inputs = s.inputs := rfl
@[simp] theorem goto_draws (p : Phase) : (s.goto p).draws = s.draws := rfl
@[simp] theorem goto_busLog (p : Phase) : (s.goto p).busLog = s.busLog := rfl
@[simp] theorem goto_worker (p : Phase) : (s.goto p).worker = s.worker := rfl
@[simp] theorem goto_consumer (p : Phase) : (s.goto p).consumer = s.consumer := rfl

/-! ## `State.finish` -/

@[simp] theorem finish_seq : s.finish.seq = .idle := rfl
@[simp] theorem finish_crc : s.finish.crc = s.crc := rfl
@[simp] theorem finish_cmd : s.finish.cmd = s.cmd := rfl
@[simp] theorem finish_arg : s.finish.arg = s.arg := rfl
@[simp] theorem finish_tx : s.finish.tx = s.tx := rfl
@[simp] theorem finish_txLen : s.finish.txLen = s.txLen := rfl
@[simp] theorem finish_rx : s.finish.rx = s.rx := rfl
@[simp] theorem finish_rxLen : s.finish.rxLen = s.rxLen := rfl
@[simp] theorem finish_ok : s.finish.ok = s.ok := rfl
@[simp] theorem finish_valid : s.finish.valid = s.valid := rfl
@[simp] theorem finish_fault : s.finish.fault = s.fault := rfl
@[simp] theorem finish_busOwned : s.finish.busOwned = s.busOwned := rfl
@[simp] theorem finish_fCo2 : s.finish.fCo2 = s.fCo2 := rfl
@[simp] theorem finish_fTemp : s.finish.fTemp = s.fTemp := rfl
@[simp] theorem finish_fHum : s.finish.fHum = s.fHum := rfl
@[simp] theorem finish_fRes : s.finish.fRes = s.fRes := rfl
@[simp] theorem finish_cur : s.finish.cur = none := rfl
@[simp] theorem finish_xfer : s.finish.xfer = s.xfer := rfl
@[simp] theorem finish_requests : s.finish.requests = s.requests := rfl
@[simp] theorem finish_grants : s.finish.grants = s.grants := rfl
@[simp] theorem finish_transfers : s.finish.transfers = s.transfers := rfl
@[simp] theorem finish_inputs : s.finish.inputs = s.inputs := rfl
@[simp] theorem finish_draws : s.finish.draws = s.draws := rfl
@[simp] theorem finish_busLog : s.finish.busLog = s.busLog := rfl
@[simp] theorem finish_worker : s.finish.worker = s.worker := rfl
@[simp] theorem finish_consumer : s.finish.consumer = s.consumer := rfl

/-! ## `State.setOk` -/

@[simp] theorem setOk_seq (b : Bool) : (s.setOk b).seq = s.seq := rfl
@[simp] theorem setOk_crc (b : Bool) : (s.setOk b).crc = s.crc := rfl
@[simp] theorem setOk_cmd (b : Bool) : (s.setOk b).cmd = s.cmd := rfl
@[simp] theorem setOk_arg (b : Bool) : (s.setOk b).arg = s.arg := rfl
@[simp] theorem setOk_tx (b : Bool) : (s.setOk b).tx = s.tx := rfl
@[simp] theorem setOk_txLen (b : Bool) : (s.setOk b).txLen = s.txLen := rfl
@[simp] theorem setOk_rx (b : Bool) : (s.setOk b).rx = s.rx := rfl
@[simp] theorem setOk_rxLen (b : Bool) : (s.setOk b).rxLen = s.rxLen := rfl
@[simp] theorem setOk_ok (b : Bool) : (s.setOk b).ok = b := rfl
@[simp] theorem setOk_valid (b : Bool) : (s.setOk b).valid = s.valid := rfl
@[simp] theorem setOk_fault (b : Bool) : (s.setOk b).fault = s.fault := rfl
@[simp] theorem setOk_busOwned (b : Bool) : (s.setOk b).busOwned = s.busOwned := rfl
@[simp] theorem setOk_fCo2 (b : Bool) : (s.setOk b).fCo2 = s.fCo2 := rfl
@[simp] theorem setOk_fTemp (b : Bool) : (s.setOk b).fTemp = s.fTemp := rfl
@[simp] theorem setOk_fHum (b : Bool) : (s.setOk b).fHum = s.fHum := rfl
@[simp] theorem setOk_fRes (b : Bool) : (s.setOk b).fRes = s.fRes := rfl
@[simp] theorem setOk_cur (b : Bool) : (s.setOk b).cur = s.cur := rfl
@[simp] theorem setOk_xfer (b : Bool) : (s.setOk b).xfer = s.xfer := rfl
@[simp] theorem setOk_requests (b : Bool) : (s.setOk b).requests = s.requests := rfl
@[simp] theorem setOk_grants (b : Bool) : (s.setOk b).grants = s.grants := rfl
@[simp] theorem setOk_transfers (b : Bool) : (s.setOk b).transfers = s.transfers := rfl
@[simp] theorem setOk_inputs (b : Bool) : (s.setOk b).inputs = s.inputs := rfl
@[simp] theorem setOk_draws (b : Bool) : (s.setOk b).draws = s.draws := rfl
@[simp] theorem setOk_busLog (b : Bool) : (s.setOk b).busLog = s.busLog := rfl
@[simp] theorem setOk_worker (b : Bool) : (s.setOk b).worker = s.worker := rfl
@[simp] theorem setOk_consumer (b : Bool) : (s.setOk b).consumer = s.consumer := rfl

/-! ## `State.setValid` -/

@[simp] theorem setValid_seq (b : Bool) : (s.setValid b).seq = s.seq := rfl
@[simp] theorem setValid_crc (b : Bool) : (s.setValid b).crc = s.crc := rfl
@[simp] theorem setValid_cmd (b : Bool) : (s.setValid b).cmd = s.cmd := rfl
@[simp] theorem setValid_arg (b : Bool) : (s.setValid b).arg = s.arg := rfl
@[simp] theorem setValid_tx (b : Bool) : (s.setValid b).tx = s.tx := rfl
@[simp] theorem setValid_txLen (b : Bool) : (s.setValid b).txLen = s.txLen := rfl
@[simp] theorem setValid_rx (b : Bool) : (s.setValid b).rx = s.rx := rfl
@[simp] theorem setValid_rxLen (b : Bool) : (s.setValid b).rxLen = s.rxLen := rfl
@[simp] theorem setValid_ok (b : Bool) : (s.setValid b).ok = s.ok := rfl
@[simp] theorem setValid_valid (b : Bool) : (s.setValid b).valid = b := rfl
@[simp] theorem setValid_fault (b : Bool) : (s.setValid b).fault = s.fault := rfl
@[simp] theorem setValid_busOwned (b : Bool) : (s.setValid b).busOwned = s.busOwned := rfl
@[simp] theorem setValid_fCo2 (b : Bool) : (s.setValid b).fCo2 = s.fCo2 := rfl
@[simp] theorem setValid_fTemp (b : Bool) : (s.setValid b).fTemp = s.fTemp := rfl
@[simp] theorem setValid_fHum (b : Bool) : (s.setValid b).fHum = s.fHum := rfl
@[simp] theorem setValid_fRes (b : Bool) : (s.setValid b).fRes = s.fRes := rfl
@[simp] theorem setValid_cur (b : Bool) : (s.setValid b).cur = s.cur := rfl
@[simp] theorem setValid_xfer (b : Bool) : (s.setValid b).xfer = s.xfer := rfl
@[simp] theorem setValid_requests (b : Bool) : (s.setValid b).requests = s.requests := rfl
@[simp] theorem setValid_grants (b : Bool) : (s.setValid b).grants = s.grants := rfl
@[simp] theorem setValid_transfers (b : Bool) : (s.setValid b).transfers = s.transfers := rfl
@[simp] theorem setValid_inputs (b : Bool) : (s.setValid b).inputs = s.inputs := rfl
@[simp] theorem setValid_draws (b : Bool) : (s.setValid b).draws = s.draws := rfl
@[simp] theorem setValid_busLog (b : Bool) : (s.setValid b).busLog = s.busLog := rfl
@[simp] theorem setValid_worker (b : Bool) : (s.setValid b).worker = s.worker := rfl
@[simp] theorem setValid_consumer (b : Bool) : (s.setValid b).consumer = s.consumer := rfl

/-! ## `State.setFault` -/

@[simp] theorem setFault_seq : s.setFault.seq = s.seq := rfl
@[simp] theorem setFault_crc : s.setFault.crc = s.crc := rfl
@[simp] theorem setFault_cmd : s.setFault.cmd = s.cmd := rfl
@[simp] theorem setFault_arg : s.setFault.arg = s.arg := rfl
@[simp] theorem setFault_tx : s.setFault.tx = s.tx := rfl
@[simp] theorem setFault_txLen : s.setFault.txLen = s.txLen := rfl
@[simp] theorem setFault_rx : s.setFault.rx = s.rx := rfl
@[simp] theorem setFault_rxLen : s.setFault.rxLen = s.rxLen := rfl
@[simp] theorem setFault_ok : s.setFault.ok = s.ok := rfl
@[simp] theorem setFault_valid : s.setFault.valid = s.valid := rfl
@[simp] theorem setFault_fault : s.setFault.fault = true := rfl
@[simp] theorem setFault_busOwned : s.setFault.busOwned = s.busOwned := rfl
@[simp] theorem setFault_fCo2 : s.setFault.fCo2 = s.fCo2 := rfl
@[simp] theorem setFault_fTemp : s.setFault.fTemp = s.fTemp := rfl
@[simp] theorem setFault_fHum : s.setFault.fHum = s.fHum := rfl
@[simp] theorem setFault_fRes : s.setFault.fRes = s.fRes := rfl
@[simp] theorem setFault_cur : s.setFault.cur = s.cur := rfl
@[simp] theorem setFault_xfer : s.setFault.xfer = s.xfer := rfl
@[simp] theorem setFault_requests : s.setFault.requests = s.requests := rfl
@[simp] theorem setFault_grants : s.setFault.grants = s.grants := rfl
@[simp] theorem setFault_transfers : s.setFault.transfers = s.transfers := rfl
@[simp] theorem setFault_inputs : s.setFault.inputs = s.inputs := rfl
@[simp] theorem setFault_draws : s.setFault.draws = s.draws := rfl
@[simp] theorem setFault_busLog : s.setFault.busLog = s.busLog := rfl
@[simp] theorem setFault_worker : s.setFault.worker = s.worker := rfl
@[simp] theorem setFault_consumer : s.setFault.consumer = s.consumer := rfl

/-! ## `State.setBusOwned` -/

@[simp] theorem setBusOwned_seq (b : Bool) : (s.setBusOwned b).seq = s.seq := rfl
@[simp] theorem setBusOwned_crc (b : Bool) : (s.setBusOwned b).crc = s.crc := rfl
@[simp] theorem setBusOwned_cmd (b : Bool) : (s.setBusOwned b).cmd = s.cmd := rfl
@[simp] theorem setBusOwned_arg (b : Bool) : (s.setBusOwned b).arg = s.arg := rfl
@[simp] theorem setBusOwned_tx (b : Bool) : (s.setBusOwned b).tx = s.tx := rfl
@[simp] theorem setBusOwned_txLen (b : Bool) : (s.setBusOwned b).txLen = s.txLen := rfl
@[simp] theorem setBusOwned_rx (b : Bool) : (s.setBusOwned b).rx = s.rx := rfl
@[simp] theorem setBusOwned_rxLen (b : Bool) : (s.setBusOwned b).rxLen = s.rxLen := rfl
@[simp] theorem setBusOwned_ok (b : Bool) : (s.setBusOwned b).ok = s.ok := rfl
@[simp] theorem setBusOwned_valid (b : Bool) : (s.setBusOwned b).valid = s.valid := rfl
@[simp] theorem setBusOwned_fault (b : Bool) : (s.setBusOwned b).fault = s.fault := rfl
@[simp] theorem setBusOwned_busOwned (b : Bool) : (s.setBusOwned b).busOwned = b := rfl
@[simp] theorem setBusOwned_fCo2 (b : Bool) : (s.setBusOwned b).fCo2 = s.fCo2 := rfl
@[simp] theorem setBusOwned_fTemp (b : Bool) : (s.setBusOwned b).fTemp = s.fTemp := rfl
@[simp] theorem setBusOwned_fHum (b : Bool) : (s.setBusOwned b).fHum = s.fHum := rfl
@[simp] theorem setBusOwned_fRes (b : Bool) : (s.setBusOwned b).fRes = s.fRes := rfl
@[simp] theorem setBusOwned_cur (b : Bool) : (s.setBusOwned b).cur = s.cur := rfl
@[simp] theorem setBusOwned_xfer (b : Bool) : (s.setBusOwned b).xfer = s.xfer := rfl
@[simp] theorem setBusOwned_requests (b : Bool) : (s.setBusOwned b).requests = s.requests := rfl
@[simp] theorem setBusOwned_grants (b : Bool) : (s.setBusOwned b).grants = s.grants := rfl
@[simp] theorem setBusOwned_transfers (b : Bool) : (s.setBusOwned b).transfers = s.transfers := rfl
@[simp] theorem setBusOwned_inputs (b : Bool) : (s.setBusOwned b).inputs = s.inputs := rfl
@[simp] theorem setBusOwned_draws (b : Bool) : (s.setBusOwned b).draws = s.draws := rfl
@[simp] theorem setBusOwned_busLog (b : Bool) : (s.setBusOwned b).busLog = s.busLog := rfl
@[simp] theorem setBusOwned_worker (b : Bool) : (s.setBusOwned b).worker = s.worker := rfl
@[simp] theorem setBusOwned_consumer (b : Bool) : (s.setBusOwned b).consumer = s.consumer := rfl

/-! ## `State.raiseFault` -/

@[simp] theorem raiseFault_seq : s.raiseFault.seq = .idle := rfl
@[simp] theorem raiseFault_crc : s.raiseFault.crc = s.crc := rfl
@[simp] theorem raiseFault_cmd : s.raiseFault.cmd = s.cmd := rfl
@[simp] theorem raiseFault_arg : s.raiseFault.arg = s.arg := rfl
@[simp] theorem raiseFault_tx : s.raiseFault.tx = s.tx := rfl
@[simp] theorem raiseFault_txLen : s.raiseFault.txLen = s.txLen := rfl
@[simp] theorem raiseFault_rx : s.raiseFault.rx = s.rx := rfl
@[simp] theorem raiseFault_rxLen : s.raiseFault.rxLen = s.rxLen := rfl
@[simp] theorem raiseFault_ok : s.raiseFault.ok = s.ok := rfl
@[simp] theorem raiseFault_valid : s.raiseFault.valid = s.valid := rfl
@[simp] theorem raiseFault_fault : s.raiseFault.fault = true := rfl
@[simp] theorem raiseFault_busOwned : s.raiseFault.busOwned = s.busOwned := rfl
@[simp] theorem raiseFault_fCo2 : s.raiseFault.fCo2 = s.fCo2 := rfl
@[simp] theorem raiseFault_fTemp : s.raiseFault.fTemp = s.fTemp := rfl
@[simp] theorem raiseFault_fHum : s.raiseFault.fHum = s.fHum := rfl
@[simp] theorem raiseFault_fRes : s.raiseFault.fRes = s.fRes := rfl
@[simp] theorem raiseFault_cur : s.raiseFault.cur = none := rfl
@[simp] theorem raiseFault_xfer : s.raiseFault.xfer = s.xfer := rfl
@[simp] theorem raiseFault_requests : s.raiseFault.requests = s.requests := rfl
@[simp] theorem raiseFault_grants : s.raiseFault.grants = s.grants := rfl
@[simp] theorem raiseFault_transfers : s.raiseFault.transfers = s.transfers := rfl
@[simp] theorem raiseFault_inputs : s.raiseFault.inputs = s.inputs := rfl
@[simp] theorem raiseFault_draws : s.raiseFault.draws = s.draws := rfl
@[simp] theorem raiseFault_busLog : s.raiseFault.busLog = s.busLog := rfl
@[simp] theorem raiseFault_worker : s.raiseFault.worker = s.worker := rfl
@[simp] theorem raiseFault_consumer : s.raiseFault.consumer = s.consumer := rfl

/-! ## `State.latchCmd` -/

@[simp] theorem latchCmd_seq (v : Half) : (s.latchCmd v).seq = s.seq := rfl
@[simp] theorem latchCmd_crc (v : Half) : (s.latchCmd v).crc = s.crc := rfl
@[simp] theorem latchCmd_cmd (v : Half) : (s.latchCmd v).cmd = v := rfl
@[simp] theorem latchCmd_arg (v : Half) : (s.latchCmd v).arg = s.arg := rfl
@[simp] theorem latchCmd_tx (v : Half) : (s.latchCmd v).tx = s.tx := rfl
@[simp] theorem latchCmd_txLen (v : Half) : (s.latchCmd v).txLen = s.txLen := rfl
@[simp] theorem latchCmd_rx (v : Half) : (s.latchCmd v).rx = s.rx := rfl
@[simp] theorem latchCmd_rxLen (v : Half) : (s.latchCmd v).rxLen = s.rxLen := rfl
@[simp] theorem latchCmd_ok (v : Half) : (s.latchCmd v).ok = s.ok := rfl
@[simp] theorem latchCmd_valid (v : Half) : (s.latchCmd v).valid = s.valid := rfl
@[simp] theorem latchCmd_fault (v : Half) : (s.latchCmd v).fault = s.fault := rfl
@[simp] theorem latchCmd_busOwned (v : Half) : (s.latchCmd v).busOwned = s.busOwned := rfl
@[simp] theorem latchCmd_fCo2 (v : Half) : (s.latchCmd v).fCo2 = s.fCo2 := rfl
@[simp] theorem latchCmd_fTemp (v : Half) : (s.latchCmd v).fTemp = s.fTemp := rfl
@[simp] theorem latchCmd_fHum (v : Half) : (s.latchCmd v).fHum = s.fHum := rfl
@[simp] theorem latchCmd_fRes (v : Half) : (s.latchCmd v).fRes = s.fRes := rfl
@[simp] theorem latchCmd_cur (v : Half) : (s.latchCmd v).cur = s.cur := rfl
@[simp] theorem latchCmd_xfer (v : Half) : (s.latchCmd v).xfer = s.xfer := rfl
@[simp] theorem latchCmd_requests (v : Half) : (s.latchCmd v).requests = s.requests := rfl
@[simp] theorem latchCmd_grants (v : Half) : (s.latchCmd v).grants = s.grants := rfl
@[simp] theorem latchCmd_transfers (v : Half) : (s.latchCmd v).transfers = s.transfers := rfl
@[simp] theorem latchCmd_inputs (v : Half) : (s.latchCmd v).inputs = s.inputs := rfl
@[simp] theorem latchCmd_draws (v : Half) : (s.latchCmd v).draws = s.draws := rfl
@[simp] theorem latchCmd_busLog (v : Half) : (s.latchCmd v).busLog = s.busLog := rfl
@[simp] theorem latchCmd_worker (v : Half) : (s.latchCmd v).worker = s.worker := rfl
@[simp] theorem latchCmd_consumer (v : Half) : (s.latchCmd v).consumer = s.consumer := rfl

/-! ## `State.latchArg` -/

@[simp] theorem latchArg_seq (v : Half) : (s.latchArg v).seq = s.seq := rfl
@[simp] theorem latchArg_crc (v : Half) : (s.latchArg v).crc = s.crc := rfl
@[simp] theorem latchArg_cmd (v : Half) : (s.latchArg v).cmd = s.cmd := rfl
@[simp] theorem latchArg_arg (v : Half) : (s.latchArg v).arg = v := rfl
@[simp] theorem latchArg_tx (v : Half) : (s.latchArg v).tx = s.tx := rfl
@[simp] theorem latchArg_txLen (v : Half) : (s.latchArg v).txLen = s.txLen := rfl
@[simp] theorem latchArg_rx (v : Half) : (s.latchArg v).rx = s.rx := rfl
@[simp] theorem latchArg_rxLen (v : Half) : (s.latchArg v).rxLen = s.rxLen := rfl
@[simp] theorem latchArg_ok (v : Half) : (s.latchArg v).ok = s.ok := rfl
@[simp] theorem latchArg_valid (v : Half) : (s.latchArg v).valid = s.valid := rfl
@[simp] theorem latchArg_fault (v : Half) : (s.latchArg v).fault = s.fault := rfl
@[simp] theorem latchArg_busOwned (v : Half) : (s.latchArg v).busOwned = s.busOwned := rfl
@[simp] theorem latchArg_fCo2 (v : Half) : (s.latchArg v).fCo2 = s.fCo2 := rfl
@[simp] theorem latchArg_fTemp (v : Half) : (s.latchArg v).fTemp = s.fTemp := rfl
@[simp] theorem latchArg_fHum (v : Half) : (s.latchArg v).fHum = s.fHum := rfl
@[simp] theorem latchArg_fRes (v : Half) : (s.latchArg v).fRes = s.fRes := rfl
@[simp] theorem latchArg_cur (v : Half) : (s.latchArg v).cur = s.cur := rfl
@[simp] theorem latchArg_xfer (v : Half) : (s.latchArg v).xfer = s.xfer := rfl
@[simp] theorem latchArg_requests (v : Half) : (s.latchArg v).requests = s.requests := rfl
@[simp] theorem latchArg_grants (v : Half) : (s.latchArg v).grants = s.grants := rfl
@[simp] theorem latchArg_transfers (v : Half) : (s.latchArg v).transfers = s.transfers := rfl
@[simp] theorem latchArg_inputs (v : Half) : (s.latchArg v).inputs = s.inputs := rfl
@[simp] theorem latchArg_draws (v : Half) : (s.latchArg v).draws = s.draws := rfl
@[simp] theorem latchArg_busLog (v : Half) : (s.latchArg v).busLog = s.busLog := rfl
@[simp] theorem latchArg_worker (v : Half) : (s.latchArg v).worker = s.worker := rfl
@[simp] theorem latchArg_consumer (v : Half) : (s.latchArg v).consumer = s.consumer := rfl

/-! ## `State.fillTx` -/

@[simp] theorem fillTx_seq (d : List Byte) : (s.fillTx d).seq = s.seq := rfl
@[simp] theorem fillTx_crc (d : List Byte) : (s.fillTx d).crc = s.crc := rfl
@[simp] theorem fillTx_cmd (d : List Byte) : (s.fillTx d).cmd = s.cmd := rfl
@[simp] theorem fillTx_arg (d : List Byte) : (s.fillTx d).arg = s.arg := rfl
@[simp] theorem fillTx_tx (d : List Byte) : (s.fillTx d).tx = s.tx.write 0 d := rfl
@[simp] theorem fillTx_txLen (d : List Byte) : (s.fillTx d).txLen = BitVec.ofNat 3 d.length := rfl
@[simp] theorem fillTx_rx (d : List Byte) : (s.fillTx d).rx = s.rx := rfl
@[simp] theorem fillTx_rxLen (d : List Byte) : (s.fillTx d).rxLen = s.rxLen := rfl
@[simp] theorem fillTx_ok (d : List Byte) : (s.fillTx d).ok = s.ok := rfl
@[simp] theorem fillTx_valid (d : List Byte) : (s.fillTx d).valid = s.valid := rfl
@[simp] theorem fillTx_fault (d : List Byte) : (s.fillTx d).fault = s.fault := rfl
@[simp] theorem fillTx_busOwned (d : List Byte) : (s.fillTx d).busOwned = s.busOwned := rfl
@[simp] theorem fillTx_fCo2 (d : List Byte) : (s.fillTx d).fCo2 = s.fCo2 := rfl
@[simp] theorem fillTx_fTemp (d : List Byte) : (s.fillTx d).fTemp = s.fTemp := rfl
@[simp] theorem fillTx_fHum (d : List Byte) : (s.fillTx d).fHum = s.fHum := rfl
@[simp] theorem fillTx_fRes (d : List Byte) : (s.fillTx d).fRes = s.fRes := rfl
@[simp] theorem fillTx_cur (d : List Byte) : (s.fillTx d).cur = s.cur := rfl
@[simp] theorem fillTx_xfer (d : List Byte) : (s.fillTx d).xfer = s.xfer := rfl
@[simp] theorem fillTx_requests (d : List Byte) : (s.fillTx d).requests = s.requests := rfl
@[simp] theorem fillTx_grants (d : List Byte) : (s.fillTx d).grants = s.grants := rfl
@[simp] theorem fillTx_transfers (d : List Byte) : (s.fillTx d).transfers = s.transfers := rfl
@[simp] theorem fillTx_inputs (d : List Byte) : (s.fillTx d).inputs = s.inputs := rfl
@[simp] theorem fillTx_draws (d : List Byte) : (s.fillTx d).draws = s.draws := rfl
@[simp] theorem fillTx_busLog (d : List Byte) : (s.fillTx d).busLog = s.busLog := rfl
@[simp] theorem fillTx_worker (d : List Byte) : (s.fillTx d).worker = s.worker := rfl
@[simp] theorem fillTx_consumer (d : List Byte) : (s.fillTx d).consumer = s.consumer := rfl

/-! ## `State.encodeN` -/

@[simp] theorem encodeN_seq : s.encodeN.seq = s.seq := rfl
@[simp] theorem encodeN_crc : s.encodeN.crc = s.crc := rfl
@[simp] theorem encodeN_cmd : s.encodeN.cmd = s.cmd := rfl
@[simp] theorem encodeN_arg : s.encodeN.arg = s.arg := rfl
@[simp] theorem encodeN_tx : s.encodeN.tx = s.tx.write 0 (frameN s.cmd) := rfl
@[simp] theorem encodeN_txLen : s.encodeN.txLen = 2#3 := rfl
@[simp] theorem encodeN_rx : s.encodeN.rx = s.rx := rfl
@[simp] theorem encodeN_rxLen : s.encodeN.rxLen = s.rxLen := rfl
@[simp] theorem encodeN_ok : s.encodeN.ok = s.ok := rfl
@[simp] theorem encodeN_valid : s.encodeN.valid = s.valid := rfl
@[simp] theorem encodeN_fault : s.encodeN.fault = s.fault := rfl
@[simp] theorem encodeN_busOwned : s.encodeN.busOwned = s.busOwned := rfl
@[simp] theorem encodeN_fCo2 : s.encodeN.fCo2 = s.fCo2 := rfl
@[simp] theorem encodeN_fTemp : s.encodeN.fTemp = s.fTemp := rfl
@[simp] theorem encodeN_fHum : s.encodeN.fHum = s.fHum := rfl
@[simp] theorem encodeN_fRes : s.encodeN.fRes = s.fRes := rfl
@[simp] theorem encodeN_cur : s.encodeN.cur = s.cur := rfl
@[simp] theorem encodeN_xfer : s.encodeN.xfer = s.xfer := rfl
@[simp] theorem encodeN_requests : s.encodeN.requests = s.requests := rfl
@[simp] theorem encodeN_grants : s.encodeN.grants = s.grants := rfl
@[simp] theorem encodeN_transfers : s.encodeN.transfers = s.transfers := rfl
@[simp] theorem encodeN_inputs : s.encodeN.inputs = s.inputs := rfl
@[simp] theorem encodeN_draws : s.encodeN.draws = s.draws := rfl
@[simp] theorem encodeN_busLog : s.encodeN.busLog = s.busLog := rfl
@[simp] theorem encodeN_worker : s.encodeN.worker = s.worker := rfl
@[simp] theorem encodeN_consumer : s.encodeN.consumer = s.consumer := rfl

/-! ## `State.encodeA` -/

@[simp] theorem encodeA_seq : s.encodeA.seq = s.seq := rfl
@[simp] theorem encodeA_crc : s.encodeA.crc = argCrc s.arg := rfl
@[simp] theorem encodeA_cmd : s.encodeA.cmd = s.cmd := rfl
@[simp] theorem encodeA_arg : s.encodeA.arg = s.arg := rfl
@[simp] theorem encodeA_tx : s.encodeA.tx = s.tx.write 0 (frameA s.cmd s.arg (argCrc s.arg)) := rfl
@[simp] theorem encodeA_txLen : s.encodeA.txLen = 5#3 := rfl
@[simp] theorem encodeA_rx : s.encodeA.rx = s.rx := rfl
@[simp] theorem encodeA_rxLen : s.encodeA.rxLen = s.rxLen := rfl
@[simp] theorem encodeA_ok : s.encodeA.ok = s.ok := rfl
@[simp] theorem encodeA_valid : s.encodeA.valid = s.valid := rfl
@[simp] theorem encodeA_fault : s.encodeA.fault = s.fault := rfl
@[simp] theorem encodeA_busOwned : s.encodeA.busOwned = s.busOwned := rfl
@[simp] theorem encodeA_fCo2 : s.encodeA.fCo2 = s.fCo2 := rfl
@[simp] theorem encodeA_fTemp : s.encodeA.fTemp = s.fTemp := rfl
@[simp] theorem encodeA_fHum : s.encodeA.fHum = s.fHum := rfl
@[simp] theorem encodeA_fRes : s.encodeA.fRes = s.fRes := rfl
@[simp] theorem encodeA_cur : s.encodeA.cur = s.cur := rfl
@[simp] theorem encodeA_xfer : s.encodeA.xfer = s.xfer := rfl
@[simp] theorem encodeA_requests : s.encodeA.requests = s.requests := rfl
@[simp] theorem encodeA_grants : s.encodeA.grants = s.grants := rfl
@[simp] theorem encodeA_transfers : s.encodeA.transfers = s.transfers := rfl
@[simp] theorem encodeA_inputs : s.encodeA.inputs = s.inputs := rfl
@[simp] theorem encodeA_draws : s.encodeA.draws = s.draws := rfl
@[simp] theorem encodeA_busLog : s.encodeA.busLog = s.busLog := rfl
@[simp] theorem encodeA_worker : s.encodeA.worker = s.worker := rfl
@[simp] theorem encodeA_consumer : s.encodeA.consumer = s.consumer := rfl

/-! ## `State.transmit` -/

@[simp] theorem transmit_seq (d : List Byte) : (s.transmit d).seq = .release := rfl
@[simp] theorem transmit_crc (d : List Byte) : (s.transmit d).crc = s.crc := rfl
@[simp] theorem transmit_cmd (d : List Byte) : (s.transmit d).cmd = s.cmd := rfl
@[simp] theorem transmit_arg (d : List Byte) : (s.transmit d).arg = s.arg := rfl
@[simp] theorem transmit_tx (d : List Byte) : (s.transmit d).tx = s.tx := rfl
@[simp] theorem transmit_txLen (d : List Byte) : (s.transmit d).txLen = s.txLen := rfl
@[simp] theorem transmit_rx (d : List Byte) : (s.transmit d).rx = s.rx := rfl
@[simp] theorem transmit_rxLen (d : List Byte) : (s.transmit d).rxLen = s.rxLen := rfl
@[simp] theorem transmit_ok (d : List Byte) : (s.transmit d).ok = s.ok := rfl
@[simp] theorem transmit_valid (d : List Byte) : (s.transmit d).valid = s.valid := rfl
@[simp] theorem transmit_fault (d : List Byte) : (s.transmit d).fault = s.fault := rfl
@[simp] theorem transmit_busOwned (d : List Byte) : (s.transmit d).busOwned = s.busOwned := rfl
@[simp] theorem transmit_fCo2 (d : List Byte) : (s.transmit d).fCo2 = s.fCo2 := rfl
@[simp] theorem transmit_fTemp (d : List Byte) : (s.transmit d).fTemp = s.fTemp := rfl
@[simp] theorem transmit_fHum (d : List Byte) : (s.transmit d).fHum = s.fHum := rfl
@[simp] theorem transmit_fRes (d : List Byte) : (s.transmit d).fRes = s.fRes := rfl
@[simp] theorem transmit_cur (d : List Byte) : (s.transmit d).cur = s.cur := rfl
@[simp] theorem transmit_xfer (d : List Byte) : (s.transmit d).xfer = { completed := s.answer.completed, rxdata := s.answer.rxdata } := rfl
@[simp] theorem transmit_requests (d : List Byte) : (s.transmit d).requests = s.requests := rfl
@[simp] theorem transmit_grants (d : List Byte) : (s.transmit d).grants = s.grants := rfl
@[simp] theorem transmit_transfers (d : List Byte) : (s.transmit d).transfers = s.transfers.tail := rfl
@[simp] theorem transmit_inputs (d : List Byte) : (s.transmit d).inputs = s.inputs := rfl
@[simp] theorem transmit_draws (d : List Byte) : (s.transmit d).draws = s.draws + 1 := rfl
@[simp] theorem transmit_busLog (d : List Byte) : (s.transmit d).busLog = s.busLog ++
      [{ address := Config.addrByte, written := d, readLen := s.readCount, completed := s.answer.completed,
         received := receivedBytes s.answer d }] := rfl
@[simp] theorem transmit_worker (d : List Byte) : (s.transmit d).worker = s.worker := rfl
@[simp] theorem transmit_consumer (d : List Byte) : (s.transmit d).consumer = s.consumer := rfl

/-! ## `State.release` -/

@[simp] theorem release_seq : s.release.seq = s.seq := rfl
@[simp] theorem release_crc : s.release.crc = s.crc := rfl
@[simp] theorem release_cmd : s.release.cmd = s.cmd := rfl
@[simp] theorem release_arg : s.release.arg = s.arg := rfl
@[simp] theorem release_tx : s.release.tx = s.tx := rfl
@[simp] theorem release_txLen : s.release.txLen = s.txLen := rfl
@[simp] theorem release_rx : s.release.rx = s.rx := rfl
@[simp] theorem release_rxLen : s.release.rxLen = s.rxLen := rfl
@[simp] theorem release_ok : s.release.ok = s.xfer.completed := rfl
@[simp] theorem release_valid : s.release.valid = s.valid := rfl
@[simp] theorem release_fault : s.release.fault = s.fault := rfl
@[simp] theorem release_busOwned : s.release.busOwned = false := rfl
@[simp] theorem release_fCo2 : s.release.fCo2 = s.fCo2 := rfl
@[simp] theorem release_fTemp : s.release.fTemp = s.fTemp := rfl
@[simp] theorem release_fHum : s.release.fHum = s.fHum := rfl
@[simp] theorem release_fRes : s.release.fRes = s.fRes := rfl
@[simp] theorem release_cur : s.release.cur = s.cur := rfl
@[simp] theorem release_xfer : s.release.xfer = s.xfer := rfl
@[simp] theorem release_requests : s.release.requests = s.requests := rfl
@[simp] theorem release_grants : s.release.grants = s.grants := rfl
@[simp] theorem release_transfers : s.release.transfers = s.transfers := rfl
@[simp] theorem release_inputs : s.release.inputs = s.inputs := rfl
@[simp] theorem release_draws : s.release.draws = s.draws := rfl
@[simp] theorem release_busLog : s.release.busLog = s.busLog := rfl
@[simp] theorem release_worker : s.release.worker = s.worker := rfl
@[simp] theorem release_consumer : s.release.consumer = s.consumer := rfl

/-! ## `State.receive` -/

@[simp] theorem receive_seq : s.receive.seq = s.seq := by simp only [State.receive]
@[simp] theorem receive_crc : s.receive.crc = s.crc := by simp only [State.receive]
@[simp] theorem receive_cmd : s.receive.cmd = s.cmd := by simp only [State.receive]
@[simp] theorem receive_arg : s.receive.arg = s.arg := by simp only [State.receive]
@[simp] theorem receive_tx : s.receive.tx = s.tx := by simp only [State.receive]
@[simp] theorem receive_txLen : s.receive.txLen = s.txLen := by simp only [State.receive]
theorem receive_rx : s.receive.rx = s.rx.write 0 (s.rxContents s.readCount) := by
  simp only [State.receive]
@[simp] theorem receive_rxLen : s.receive.rxLen = if s.xfer.completed then BitVec.ofNat 5 s.readCount else 0 := by
  simp only [State.receive]
@[simp] theorem receive_ok : s.receive.ok = s.ok := by simp only [State.receive]
@[simp] theorem receive_valid : s.receive.valid = s.valid := by simp only [State.receive]
@[simp] theorem receive_fault : s.receive.fault = s.fault := by simp only [State.receive]
@[simp] theorem receive_busOwned : s.receive.busOwned = s.busOwned := by simp only [State.receive]
@[simp] theorem receive_fCo2 : s.receive.fCo2 = s.fCo2 := by simp only [State.receive]
@[simp] theorem receive_fTemp : s.receive.fTemp = s.fTemp := by simp only [State.receive]
@[simp] theorem receive_fHum : s.receive.fHum = s.fHum := by simp only [State.receive]
@[simp] theorem receive_fRes : s.receive.fRes = s.fRes := by simp only [State.receive]
@[simp] theorem receive_cur : s.receive.cur = s.cur := by simp only [State.receive]
@[simp] theorem receive_xfer : s.receive.xfer = s.xfer := by simp only [State.receive]
@[simp] theorem receive_requests : s.receive.requests = s.requests := by simp only [State.receive]
@[simp] theorem receive_grants : s.receive.grants = s.grants := by simp only [State.receive]
@[simp] theorem receive_transfers : s.receive.transfers = s.transfers := by simp only [State.receive]
@[simp] theorem receive_inputs : s.receive.inputs = s.inputs := by simp only [State.receive]
@[simp] theorem receive_draws : s.receive.draws = s.draws + 18 := by
  simp only [State.receive, Config.params]
@[simp] theorem receive_busLog : s.receive.busLog = s.busLog := by simp only [State.receive]
@[simp] theorem receive_worker : s.receive.worker = s.worker := by simp only [State.receive]
@[simp] theorem receive_consumer : s.receive.consumer = s.consumer := by simp only [State.receive]

/-! ## `State.storeSample` -/

@[simp] theorem storeSample_seq (c t h : Word32) : (s.storeSample c t h).seq = s.seq := rfl
@[simp] theorem storeSample_crc (c t h : Word32) : (s.storeSample c t h).crc = s.crc := rfl
@[simp] theorem storeSample_cmd (c t h : Word32) : (s.storeSample c t h).cmd = s.cmd := rfl
@[simp] theorem storeSample_arg (c t h : Word32) : (s.storeSample c t h).arg = s.arg := rfl
@[simp] theorem storeSample_tx (c t h : Word32) : (s.storeSample c t h).tx = s.tx := rfl
@[simp] theorem storeSample_txLen (c t h : Word32) : (s.storeSample c t h).txLen = s.txLen := rfl
@[simp] theorem storeSample_rx (c t h : Word32) : (s.storeSample c t h).rx = s.rx := rfl
@[simp] theorem storeSample_rxLen (c t h : Word32) : (s.storeSample c t h).rxLen = s.rxLen := rfl
@[simp] theorem storeSample_ok (c t h : Word32) : (s.storeSample c t h).ok = s.ok := rfl
@[simp] theorem storeSample_valid (c t h : Word32) : (s.storeSample c t h).valid = true := rfl
@[simp] theorem storeSample_fault (c t h : Word32) : (s.storeSample c t h).fault = s.fault := rfl
@[simp] theorem storeSample_busOwned (c t h : Word32) : (s.storeSample c t h).busOwned = s.busOwned := rfl
@[simp] theorem storeSample_fCo2 (c t h : Word32) : (s.storeSample c t h).fCo2 = c := rfl
@[simp] theorem storeSample_fTemp (c t h : Word32) : (s.storeSample c t h).fTemp = t := rfl
@[simp] theorem storeSample_fHum (c t h : Word32) : (s.storeSample c t h).fHum = h := rfl
@[simp] theorem storeSample_fRes (c t h : Word32) : (s.storeSample c t h).fRes = s.fRes := rfl
@[simp] theorem storeSample_cur (c t h : Word32) : (s.storeSample c t h).cur = s.cur := rfl
@[simp] theorem storeSample_xfer (c t h : Word32) : (s.storeSample c t h).xfer = s.xfer := rfl
@[simp] theorem storeSample_requests (c t h : Word32) : (s.storeSample c t h).requests = s.requests := rfl
@[simp] theorem storeSample_grants (c t h : Word32) : (s.storeSample c t h).grants = s.grants := rfl
@[simp] theorem storeSample_transfers (c t h : Word32) : (s.storeSample c t h).transfers = s.transfers := rfl
@[simp] theorem storeSample_inputs (c t h : Word32) : (s.storeSample c t h).inputs = s.inputs := rfl
@[simp] theorem storeSample_draws (c t h : Word32) : (s.storeSample c t h).draws = s.draws := rfl
@[simp] theorem storeSample_busLog (c t h : Word32) : (s.storeSample c t h).busLog = s.busLog := rfl
@[simp] theorem storeSample_worker (c t h : Word32) : (s.storeSample c t h).worker = s.worker := rfl
@[simp] theorem storeSample_consumer (c t h : Word32) : (s.storeSample c t h).consumer = s.consumer := rfl

/-! ## `State.dropSample` -/

@[simp] theorem dropSample_seq : s.dropSample.seq = s.seq := rfl
@[simp] theorem dropSample_crc : s.dropSample.crc = s.crc := rfl
@[simp] theorem dropSample_cmd : s.dropSample.cmd = s.cmd := rfl
@[simp] theorem dropSample_arg : s.dropSample.arg = s.arg := rfl
@[simp] theorem dropSample_tx : s.dropSample.tx = s.tx := rfl
@[simp] theorem dropSample_txLen : s.dropSample.txLen = s.txLen := rfl
@[simp] theorem dropSample_rx : s.dropSample.rx = s.rx := rfl
@[simp] theorem dropSample_rxLen : s.dropSample.rxLen = s.rxLen := rfl
@[simp] theorem dropSample_ok : s.dropSample.ok = s.ok := rfl
@[simp] theorem dropSample_valid : s.dropSample.valid = false := rfl
@[simp] theorem dropSample_fault : s.dropSample.fault = s.fault := rfl
@[simp] theorem dropSample_busOwned : s.dropSample.busOwned = s.busOwned := rfl
@[simp] theorem dropSample_fCo2 : s.dropSample.fCo2 = Config.freeWord s.draws := rfl
@[simp] theorem dropSample_fTemp : s.dropSample.fTemp = Config.freeWord (s.draws + 1) := rfl
@[simp] theorem dropSample_fHum : s.dropSample.fHum = Config.freeWord (s.draws + 2) := rfl
@[simp] theorem dropSample_fRes : s.dropSample.fRes = s.fRes := rfl
@[simp] theorem dropSample_cur : s.dropSample.cur = s.cur := rfl
@[simp] theorem dropSample_xfer : s.dropSample.xfer = s.xfer := rfl
@[simp] theorem dropSample_requests : s.dropSample.requests = s.requests := rfl
@[simp] theorem dropSample_grants : s.dropSample.grants = s.grants := rfl
@[simp] theorem dropSample_transfers : s.dropSample.transfers = s.transfers := rfl
@[simp] theorem dropSample_inputs : s.dropSample.inputs = s.inputs := rfl
@[simp] theorem dropSample_draws : s.dropSample.draws = s.draws + 3 := rfl
@[simp] theorem dropSample_busLog : s.dropSample.busLog = s.busLog := rfl
@[simp] theorem dropSample_worker : s.dropSample.worker = s.worker := rfl
@[simp] theorem dropSample_consumer : s.dropSample.consumer = s.consumer := rfl

/-! ## `State.setWorker` -/

@[simp] theorem setWorker_seq (w : Worker) : (s.setWorker w).seq = s.seq := rfl
@[simp] theorem setWorker_crc (w : Worker) : (s.setWorker w).crc = s.crc := rfl
@[simp] theorem setWorker_cmd (w : Worker) : (s.setWorker w).cmd = s.cmd := rfl
@[simp] theorem setWorker_arg (w : Worker) : (s.setWorker w).arg = s.arg := rfl
@[simp] theorem setWorker_tx (w : Worker) : (s.setWorker w).tx = s.tx := rfl
@[simp] theorem setWorker_txLen (w : Worker) : (s.setWorker w).txLen = s.txLen := rfl
@[simp] theorem setWorker_rx (w : Worker) : (s.setWorker w).rx = s.rx := rfl
@[simp] theorem setWorker_rxLen (w : Worker) : (s.setWorker w).rxLen = s.rxLen := rfl
@[simp] theorem setWorker_ok (w : Worker) : (s.setWorker w).ok = s.ok := rfl
@[simp] theorem setWorker_valid (w : Worker) : (s.setWorker w).valid = s.valid := rfl
@[simp] theorem setWorker_fault (w : Worker) : (s.setWorker w).fault = s.fault := rfl
@[simp] theorem setWorker_busOwned (w : Worker) : (s.setWorker w).busOwned = s.busOwned := rfl
@[simp] theorem setWorker_fCo2 (w : Worker) : (s.setWorker w).fCo2 = s.fCo2 := rfl
@[simp] theorem setWorker_fTemp (w : Worker) : (s.setWorker w).fTemp = s.fTemp := rfl
@[simp] theorem setWorker_fHum (w : Worker) : (s.setWorker w).fHum = s.fHum := rfl
@[simp] theorem setWorker_fRes (w : Worker) : (s.setWorker w).fRes = s.fRes := rfl
@[simp] theorem setWorker_cur (w : Worker) : (s.setWorker w).cur = s.cur := rfl
@[simp] theorem setWorker_xfer (w : Worker) : (s.setWorker w).xfer = s.xfer := rfl
@[simp] theorem setWorker_requests (w : Worker) : (s.setWorker w).requests = s.requests := rfl
@[simp] theorem setWorker_grants (w : Worker) : (s.setWorker w).grants = s.grants := rfl
@[simp] theorem setWorker_transfers (w : Worker) : (s.setWorker w).transfers = s.transfers := rfl
@[simp] theorem setWorker_inputs (w : Worker) : (s.setWorker w).inputs = s.inputs := rfl
@[simp] theorem setWorker_draws (w : Worker) : (s.setWorker w).draws = s.draws := rfl
@[simp] theorem setWorker_busLog (w : Worker) : (s.setWorker w).busLog = s.busLog := rfl
@[simp] theorem setWorker_worker (w : Worker) : (s.setWorker w).worker = some w := rfl
@[simp] theorem setWorker_consumer (w : Worker) : (s.setWorker w).consumer = s.consumer := rfl

/-! ## `State.issue` -/

@[simp] theorem issue_seq (i : Instr) : (s.issue i).seq = s.seq := rfl
@[simp] theorem issue_crc (i : Instr) : (s.issue i).crc = s.crc := rfl
@[simp] theorem issue_cmd (i : Instr) : (s.issue i).cmd = s.cmd := rfl
@[simp] theorem issue_arg (i : Instr) : (s.issue i).arg = s.arg := rfl
@[simp] theorem issue_tx (i : Instr) : (s.issue i).tx = s.tx := rfl
@[simp] theorem issue_txLen (i : Instr) : (s.issue i).txLen = s.txLen := rfl
@[simp] theorem issue_rx (i : Instr) : (s.issue i).rx = s.rx := rfl
@[simp] theorem issue_rxLen (i : Instr) : (s.issue i).rxLen = s.rxLen := rfl
@[simp] theorem issue_ok (i : Instr) : (s.issue i).ok = s.ok := rfl
@[simp] theorem issue_valid (i : Instr) : (s.issue i).valid = s.valid := rfl
@[simp] theorem issue_fault (i : Instr) : (s.issue i).fault = s.fault := rfl
@[simp] theorem issue_busOwned (i : Instr) : (s.issue i).busOwned = s.busOwned := rfl
@[simp] theorem issue_fCo2 (i : Instr) : (s.issue i).fCo2 = s.fCo2 := rfl
@[simp] theorem issue_fTemp (i : Instr) : (s.issue i).fTemp = s.fTemp := rfl
@[simp] theorem issue_fHum (i : Instr) : (s.issue i).fHum = s.fHum := rfl
@[simp] theorem issue_fRes (i : Instr) : (s.issue i).fRes = s.fRes := rfl
@[simp] theorem issue_cur (i : Instr) : (s.issue i).cur = s.cur := rfl
@[simp] theorem issue_xfer (i : Instr) : (s.issue i).xfer = s.xfer := rfl
@[simp] theorem issue_requests (i : Instr) : (s.issue i).requests = requestFor i := rfl
@[simp] theorem issue_grants (i : Instr) : (s.issue i).grants = s.grants := rfl
@[simp] theorem issue_transfers (i : Instr) : (s.issue i).transfers = s.transfers := rfl
@[simp] theorem issue_inputs (i : Instr) : (s.issue i).inputs = s.inputs := rfl
@[simp] theorem issue_draws (i : Instr) : (s.issue i).draws = s.draws := rfl
@[simp] theorem issue_busLog (i : Instr) : (s.issue i).busLog = s.busLog := rfl
@[simp] theorem issue_worker (i : Instr) : (s.issue i).worker = s.worker := rfl
@[simp] theorem issue_consumer (i : Instr) : (s.issue i).consumer = s.consumer := rfl

/-! ## `State.forward` and `Consumer.forward` -/

@[simp] theorem forward_seq (w : Worker) : (s.forward w).seq = s.seq := rfl
@[simp] theorem forward_crc (w : Worker) : (s.forward w).crc = s.crc := rfl
@[simp] theorem forward_cmd (w : Worker) : (s.forward w).cmd = s.cmd := rfl
@[simp] theorem forward_arg (w : Worker) : (s.forward w).arg = s.arg := rfl
@[simp] theorem forward_tx (w : Worker) : (s.forward w).tx = s.tx := rfl
@[simp] theorem forward_txLen (w : Worker) : (s.forward w).txLen = s.txLen := rfl
@[simp] theorem forward_rx (w : Worker) : (s.forward w).rx = s.rx := rfl
@[simp] theorem forward_rxLen (w : Worker) : (s.forward w).rxLen = s.rxLen := rfl
@[simp] theorem forward_ok (w : Worker) : (s.forward w).ok = s.ok := rfl
@[simp] theorem forward_valid (w : Worker) : (s.forward w).valid = s.valid := rfl
@[simp] theorem forward_fault (w : Worker) : (s.forward w).fault = s.fault := rfl
@[simp] theorem forward_busOwned (w : Worker) : (s.forward w).busOwned = s.busOwned := rfl
@[simp] theorem forward_fCo2 (w : Worker) : (s.forward w).fCo2 = s.fCo2 := rfl
@[simp] theorem forward_fTemp (w : Worker) : (s.forward w).fTemp = s.fTemp := rfl
@[simp] theorem forward_fHum (w : Worker) : (s.forward w).fHum = s.fHum := rfl
@[simp] theorem forward_fRes (w : Worker) : (s.forward w).fRes = s.fRes := rfl
@[simp] theorem forward_cur (w : Worker) : (s.forward w).cur = s.cur := rfl
@[simp] theorem forward_xfer (w : Worker) : (s.forward w).xfer = s.xfer := rfl
@[simp] theorem forward_requests (w : Worker) : (s.forward w).requests = s.requests := rfl
@[simp] theorem forward_grants (w : Worker) : (s.forward w).grants = s.grants := rfl
@[simp] theorem forward_transfers (w : Worker) : (s.forward w).transfers = s.transfers := rfl
@[simp] theorem forward_inputs (w : Worker) : (s.forward w).inputs = s.inputs := rfl
@[simp] theorem forward_draws (w : Worker) : (s.forward w).draws = s.draws := rfl
@[simp] theorem forward_busLog (w : Worker) : (s.forward w).busLog = s.busLog := rfl
@[simp] theorem forward_worker (w : Worker) : (s.forward w).worker = s.worker := rfl
@[simp] theorem forward_consumer (w : Worker) : (s.forward w).consumer = s.consumer.forward w := rfl

@[simp] theorem consumer_forward_answer (w : Worker) (c : Consumer) : (c.forward w).answer = c.answer := by
  unfold Consumer.forward; split <;> rfl

/-- The log after an observation, with the record spelled out. -/
theorem consumer_forward_log (w : Worker) (c : Consumer) :
    (c.forward w).log = c.log ++ if c.forwards w then [logRecord w.latestSample] else [] := by
  unfold Consumer.forward; split <;> simp

/-! ## `State.setAnswer` -/

@[simp] theorem setAnswer_seq (a : ConsumerAnswer) : (s.setAnswer a).seq = s.seq := rfl
@[simp] theorem setAnswer_crc (a : ConsumerAnswer) : (s.setAnswer a).crc = s.crc := rfl
@[simp] theorem setAnswer_cmd (a : ConsumerAnswer) : (s.setAnswer a).cmd = s.cmd := rfl
@[simp] theorem setAnswer_arg (a : ConsumerAnswer) : (s.setAnswer a).arg = s.arg := rfl
@[simp] theorem setAnswer_tx (a : ConsumerAnswer) : (s.setAnswer a).tx = s.tx := rfl
@[simp] theorem setAnswer_txLen (a : ConsumerAnswer) : (s.setAnswer a).txLen = s.txLen := rfl
@[simp] theorem setAnswer_rx (a : ConsumerAnswer) : (s.setAnswer a).rx = s.rx := rfl
@[simp] theorem setAnswer_rxLen (a : ConsumerAnswer) : (s.setAnswer a).rxLen = s.rxLen := rfl
@[simp] theorem setAnswer_ok (a : ConsumerAnswer) : (s.setAnswer a).ok = s.ok := rfl
@[simp] theorem setAnswer_valid (a : ConsumerAnswer) : (s.setAnswer a).valid = s.valid := rfl
@[simp] theorem setAnswer_fault (a : ConsumerAnswer) : (s.setAnswer a).fault = s.fault := rfl
@[simp] theorem setAnswer_busOwned (a : ConsumerAnswer) : (s.setAnswer a).busOwned = s.busOwned := rfl
@[simp] theorem setAnswer_fCo2 (a : ConsumerAnswer) : (s.setAnswer a).fCo2 = s.fCo2 := rfl
@[simp] theorem setAnswer_fTemp (a : ConsumerAnswer) : (s.setAnswer a).fTemp = s.fTemp := rfl
@[simp] theorem setAnswer_fHum (a : ConsumerAnswer) : (s.setAnswer a).fHum = s.fHum := rfl
@[simp] theorem setAnswer_fRes (a : ConsumerAnswer) : (s.setAnswer a).fRes = s.fRes := rfl
@[simp] theorem setAnswer_cur (a : ConsumerAnswer) : (s.setAnswer a).cur = s.cur := rfl
@[simp] theorem setAnswer_xfer (a : ConsumerAnswer) : (s.setAnswer a).xfer = s.xfer := rfl
@[simp] theorem setAnswer_requests (a : ConsumerAnswer) : (s.setAnswer a).requests = s.requests := rfl
@[simp] theorem setAnswer_grants (a : ConsumerAnswer) : (s.setAnswer a).grants = s.grants := rfl
@[simp] theorem setAnswer_transfers (a : ConsumerAnswer) : (s.setAnswer a).transfers = s.transfers := rfl
@[simp] theorem setAnswer_inputs (a : ConsumerAnswer) : (s.setAnswer a).inputs = s.inputs := rfl
@[simp] theorem setAnswer_draws (a : ConsumerAnswer) : (s.setAnswer a).draws = s.draws := rfl
@[simp] theorem setAnswer_busLog (a : ConsumerAnswer) : (s.setAnswer a).busLog = s.busLog := rfl
@[simp] theorem setAnswer_worker (a : ConsumerAnswer) : (s.setAnswer a).worker = s.worker := rfl
@[simp] theorem setAnswer_consumer (a : ConsumerAnswer) : (s.setAnswer a).consumer = { s.consumer with answer := a } := rfl

/-! ## `State.acquire`: the fields it never writes -/

@[simp] theorem acquire_crc : s.acquire.crc = s.crc := by unfold State.acquire; split <;> rfl
@[simp] theorem acquire_cmd : s.acquire.cmd = s.cmd := by unfold State.acquire; split <;> rfl
@[simp] theorem acquire_arg : s.acquire.arg = s.arg := by unfold State.acquire; split <;> rfl
@[simp] theorem acquire_tx : s.acquire.tx = s.tx := by unfold State.acquire; split <;> rfl
@[simp] theorem acquire_txLen : s.acquire.txLen = s.txLen := by unfold State.acquire; split <;> rfl
@[simp] theorem acquire_rx : s.acquire.rx = s.rx := by unfold State.acquire; split <;> rfl
@[simp] theorem acquire_rxLen : s.acquire.rxLen = s.rxLen := by unfold State.acquire; split <;> rfl
@[simp] theorem acquire_ok : s.acquire.ok = s.ok := by unfold State.acquire; split <;> rfl
@[simp] theorem acquire_valid : s.acquire.valid = s.valid := by unfold State.acquire; split <;> rfl
@[simp] theorem acquire_fault : s.acquire.fault = s.fault := by unfold State.acquire; split <;> rfl
@[simp] theorem acquire_fCo2 : s.acquire.fCo2 = s.fCo2 := by unfold State.acquire; split <;> rfl
@[simp] theorem acquire_fTemp : s.acquire.fTemp = s.fTemp := by unfold State.acquire; split <;> rfl
@[simp] theorem acquire_fHum : s.acquire.fHum = s.fHum := by unfold State.acquire; split <;> rfl
@[simp] theorem acquire_fRes : s.acquire.fRes = s.fRes := by unfold State.acquire; split <;> rfl
@[simp] theorem acquire_cur : s.acquire.cur = s.cur := by unfold State.acquire; split <;> rfl
@[simp] theorem acquire_xfer : s.acquire.xfer = s.xfer := by unfold State.acquire; split <;> rfl
@[simp] theorem acquire_requests : s.acquire.requests = s.requests := by unfold State.acquire; split <;> rfl
@[simp] theorem acquire_transfers : s.acquire.transfers = s.transfers := by unfold State.acquire; split <;> rfl
@[simp] theorem acquire_inputs : s.acquire.inputs = s.inputs := by unfold State.acquire; split <;> rfl
@[simp] theorem acquire_draws : s.acquire.draws = s.draws := by unfold State.acquire; split <;> rfl
@[simp] theorem acquire_busLog : s.acquire.busLog = s.busLog := by unfold State.acquire; split <;> rfl
@[simp] theorem acquire_worker : s.acquire.worker = s.worker := by unfold State.acquire; split <;> rfl
@[simp] theorem acquire_consumer : s.acquire.consumer = s.consumer := by unfold State.acquire; split <;> rfl

/-! ## `State.resetBlock` (R190): every field of the block at its reset value, what is outside it kept -/

@[simp] theorem resetBlock_seq : s.resetBlock.seq = .idle := rfl
@[simp] theorem resetBlock_crc : s.resetBlock.crc = 0xFF#8 := rfl
@[simp] theorem resetBlock_cmd : s.resetBlock.cmd = Config.freeHalf (s.draws + 1) := rfl
@[simp] theorem resetBlock_arg : s.resetBlock.arg = Config.freeHalf (s.draws + 2) := rfl
@[simp] theorem resetBlock_tx : s.resetBlock.tx = [] := rfl
@[simp] theorem resetBlock_txLen : s.resetBlock.txLen = 0 := rfl
@[simp] theorem resetBlock_rx : s.resetBlock.rx = [] := rfl
@[simp] theorem resetBlock_rxLen : s.resetBlock.rxLen = 0 := rfl
@[simp] theorem resetBlock_ok : s.resetBlock.ok = false := rfl
@[simp] theorem resetBlock_valid : s.resetBlock.valid = false := rfl
@[simp] theorem resetBlock_fault : s.resetBlock.fault = false := rfl
@[simp] theorem resetBlock_busOwned : s.resetBlock.busOwned = false := rfl
@[simp] theorem resetBlock_fCo2 : s.resetBlock.fCo2 = Config.freeWord (s.draws + 1) := rfl
@[simp] theorem resetBlock_fTemp : s.resetBlock.fTemp = Config.freeWord (s.draws + 2) := rfl
@[simp] theorem resetBlock_fHum : s.resetBlock.fHum = Config.freeWord (s.draws + 3) := rfl
@[simp] theorem resetBlock_fRes : s.resetBlock.fRes = Config.freeWord (s.draws + 4) := rfl
@[simp] theorem resetBlock_cur : s.resetBlock.cur = none := rfl
@[simp] theorem resetBlock_xfer : s.resetBlock.xfer = { completed := false, rxdata := [] } := rfl
@[simp] theorem resetBlock_requests : s.resetBlock.requests = s.requests := rfl
@[simp] theorem resetBlock_grants : s.resetBlock.grants = s.grants := rfl
@[simp] theorem resetBlock_transfers : s.resetBlock.transfers = s.transfers := rfl
@[simp] theorem resetBlock_inputs : s.resetBlock.inputs = s.inputs := rfl
@[simp] theorem resetBlock_draws : s.resetBlock.draws = s.draws + 5 := rfl
@[simp] theorem resetBlock_busLog : s.resetBlock.busLog = s.busLog ++ s.abandoned := rfl
@[simp] theorem resetBlock_worker : s.resetBlock.worker = s.worker := rfl
@[simp] theorem resetBlock_consumer : s.resetBlock.consumer = s.consumer := rfl

end Sys2Proof.Machine
end

