-- ==== Sys2Proof/Laws/Ops.lean ====
section
/-! SUPPORT. One lemma per shared operation that says once what it can do; the provers cite these instead of unfolding. -/

namespace Sys2Proof.Machine

variable {s t : State} {i : Instr}

/-! ## Parameters -/

@[simp] theorem params_txCap : Config.params.txCap = 5 := rfl
@[simp] theorem params_rxCap : Config.params.rxCap = 18 := rfl
@[simp] theorem params_readLen : Config.params.readLen = 18#5 := rfl

/-! ## Steps -/

@[simp] theorem runSteps_zero (s : State) : runSteps 0 s = .next s := rfl

theorem runSteps_succ (n : Nat) (s : State) :
    runSteps (n + 1) s = match step s with
      | .next t    => runSteps n t
      | .fault f   => .fault f
      | .refused r => .refused r := by
  simp only [runSteps, Host.Core.run]
  rw [show Sys2Proof.core.step s = step s from rfl]
  cases step s <;> rfl

theorem runSteps_next {n : Nat} (h : step s = .next t) : runSteps (n + 1) s = runSteps n t := by
  rw [runSteps_succ, h]

/-- With nothing from outside a step is the machine's own move. -/
theorem step_quiet (h : s.inputs = []) : step s = s.advance := by
  simp only [step, State.sequence, h]

/-- What a step is made of: a reset, a consumer call, other traffic on an idle block, or a move of the machine from the
state itself or from the state with one input taken. -/
theorem step_cases {r : Result} (h : step s = r) :
    (∃ rest, s.inputs = .reset :: rest ∧ r = .next ({ s with inputs := rest } : State).resetBlock) ∨
    (∃ c rest, s.inputs = .call c :: rest ∧ s.callerBlocked c = false ∧
      r = ({ s with inputs := rest } : State).consumerCall c) ∨
    (∃ rest, s.inputs = .foreignTraffic :: rest ∧ r = ({ s with inputs := rest } : State).otherTraffic) ∨
    (∃ rest, s.inputs = .pass :: rest ∧ r = ({ s with inputs := rest } : State).advance) ∨
    r = s.advance := by
  subst h
  simp only [step, State.sequence]
  split
  · simp
  · next rest h => exact .inr (.inr (.inr (.inl ⟨rest, h, rfl⟩)))
  · next rest h => exact .inl ⟨rest, h, rfl⟩
  · next rest h => exact .inr (.inr (.inl ⟨rest, h, rfl⟩))
  · next c rest h =>
    split
    · simp
    · next hb => exact .inr (.inl ⟨c, rest, h, by simpa using hb, rfl⟩)

/-! ## The sequencer -/

theorem serve_idle (r : Result) (h : s.seq = .idle) : s.serve i r = r := by simp [State.serve, h]

theorem serve_current (r : Result) (h : s.cur = some i) : s.serve i r = r := by simp [State.serve, h]

theorem serve_held (r : Result) (h : s.seq ≠ .idle) (h' : s.cur ≠ some i) : s.serve i r = .next s := by
  simp [State.serve, h, h']

/-- A request runs, or is held unchanged. -/
theorem serve_cases {r x : Result} (h : s.serve i r = x) :
    ((s.seq = .idle ∨ s.cur = some i) ∧ r = x) ∨ (s.seq ≠ .idle ∧ s.cur ≠ some i ∧ x = .next s) := by
  simp only [State.serve] at h
  split at h
  · exact .inl ⟨‹_›, h⟩
  · next hn =>
    rw [not_or] at hn
    exact .inr ⟨hn.1, hn.2, h.symm⟩

/-! ## The bus -/

/-- One step in `ACQUIRE`: the grant, a wait, or nothing at all. -/
theorem acquire_cases (s : State) :
    (∃ g, s.grants = true :: g ∧ s.acquire = { s with grants := g, busOwned := true, seq := .transfer }) ∨
    (∃ g, s.grants = false :: g ∧ s.acquire = { s with grants := g }) ∨
    (s.grants = [] ∧ s.acquire = s) := by
  unfold State.acquire
  split
  · next g h => exact .inl ⟨g, h, rfl⟩
  · next g h => exact .inr (.inl ⟨g, h, rfl⟩)
  · next h => exact .inr (.inr ⟨h, rfl⟩)

/-- The environment's answer depends on its script and the draw counter alone. -/
theorem answer_congr (h : s.transfers = t.transfers) (h' : s.draws = t.draws) : s.answer = t.answer := by
  simp only [State.answer, h, h']

/-- How much the transaction reads depends on the operation in progress alone. -/
theorem readCount_of_cur (h : s.cur = some i) : s.readCount = opReadLen i := by simp [State.readCount, h]

theorem receivedBytes_isPrefix (a : Answer) (bytes : List Byte) : receivedBytes a bytes <+: bytes := by
  unfold receivedBytes
  split
  · exact List.prefix_rfl
  · exact List.take_prefix _ _

/-- The transmit buffer reads back as the bytes it was filled with. -/
theorem txBytes_fillTx (s : State) (data : List Byte) (h : data.length ≤ 5) : (s.fillTx data).txBytes = data := by
  have hl : (BitVec.ofNat 3 data.length).toNat = data.length := by simp; omega
  simp only [State.txBytes, fillTx_txLen, fillTx_tx, hl]
  have hf : ∀ k ∈ List.range data.length, (s.tx.write 0 data).get k = data[k]? := by
    intro k hk
    have := List.mem_range.1 hk
    rw [Memory.get_write, if_pos ⟨Nat.zero_le k, by omega⟩]
    simp
  rw [List.filterMap_congr hf]
  apply List.ext_getElem?
  intro k
  clear hf hl h
  induction data using List.reverseRecOn generalizing k with
  | nil => simp
  | append_singleton xs x ih =>
    have hc : ∀ j ∈ List.range xs.length, (xs ++ [x])[j]? = xs[j]? := fun j hj =>
      List.getElem?_append_left (List.mem_range.1 hj)
    rw [List.length_append, List.length_singleton, List.range_succ, List.filterMap_append,
      List.filterMap_congr hc, List.ext_getElem? ih]
    simp

/-! ## The receive buffer -/

theorem rxContents_length (n : Nat) (s : State) : (s.rxContents n).length = 18 := by simp [State.rxContents]

/-- After a read every address of `RX` holds a value: the received byte where the transfer delivered one, an unspecified
one elsewhere; addresses above the capacity are as before. -/
theorem receive_get (s : State) (k : Nat) :
    s.receive.rx.get k = if k < 18 then
      some (if s.xfer.completed = true ∧ k < s.readCount then s.xfer.rxdata.getD k (Config.freeByte (s.draws + k))
        else Config.freeByte (s.draws + k))
      else s.rx.get k := by
  rw [receive_rx, Memory.get_write, rxContents_length]
  by_cases h : k < 18
  · rw [if_pos ⟨Nat.zero_le k, by omega⟩, if_pos h]
    simp [State.rxContents, h]
  · rw [if_neg (by omega), if_neg h]

/-! ## Decoding -/

/-- A decode in bounds of bytes that hold a value: the four bytes in fully reversed order. -/
theorem decodeAt_of_bytes {off : Nat} {b0 b1 b2 b3 : Byte} (h : off + 4 ≤ s.rxLen.toNat)
    (h0 : s.rx.get off = some b0) (h1 : s.rx.get (off + 1) = some b1) (h2 : s.rx.get (off + 2) = some b2)
    (h3 : s.rx.get (off + 3) = some b3) : s.decodeAt off = some (b3 ++ b2 ++ b1 ++ b0) := by
  simp [State.decodeAt, memRead, h, Memory.readBytes, h0, h1, h2, h3, assembleBytes, assembleFloat]

/-- Out of bounds there is no decode. -/
theorem decodeAt_out_of_bounds {off : Nat} (h : off + 4 > s.rxLen.toNat) : s.decodeAt off = none := by
  simp only [State.decodeAt, memRead]
  rw [if_neg (by omega)]

/-- In a state whose receive buffer is filled up to `rx_len` every decode in bounds has a result. -/
theorem decodeAt_isSome {off : Nat} (hf : ∀ a, a < s.rxLen.toNat → (s.rx.get a).isSome)
    (h : off + 4 ≤ s.rxLen.toNat) : (s.decodeAt off).isSome := by
  obtain ⟨b0, h0⟩ := Option.isSome_iff_exists.1 (hf off (by omega))
  obtain ⟨b1, h1⟩ := Option.isSome_iff_exists.1 (hf (off + 1) (by omega))
  obtain ⟨b2, h2⟩ := Option.isSome_iff_exists.1 (hf (off + 2) (by omega))
  obtain ⟨b3, h3⟩ := Option.isSome_iff_exists.1 (hf (off + 3) (by omega))
  simp [decodeAt_of_bytes h h0 h1 h2 h3]

end Sys2Proof.Machine
end

