-- ==== Sys2Proof/Laws/Moves.lean ====
section
/-! SUPPORT. Everything an instruction can do to the state, and everything a step can do: one constructor per case, so that
a proof about all steps is a case analysis and unfolds no meaning. -/

namespace Sys2Proof.Machine

/-- `Move i s t`: instruction `i` can take state `s` to state `t`. -/
inductive Move : Instr → State → State → Prop where
  /-- A request that is not the operation in progress waits (R62). -/
  | held {i : Instr} {s : State} (hq : s.seq ≠ .idle) (hc : s.cur ≠ some i)
      (he : ∃ r, encode i = .request r) : Move i s s
  | checksum {s : State} (data : List Byte) (hq : s.seq = .idle) :
      Move (.crc8 data) s { s with crc := crc8 data }
  | decoded {s : State} {off : BitVec 5} {bits : Word32} (hq : s.seq = .idle)
      (h : s.decodeAt off.toNat = some bits) : Move (.decodeFloat off) s { s with fRes := bits }
  | outOfBounds {s : State} {off : BitVec 5} (hq : s.seq = .idle) (h : s.decodeAt off.toNat = none) :
      Move (.decodeFloat off) s s.raiseFault
  | writeAccepted {s : State} {data : List Byte} (hq : s.seq = .idle) (h : legalWriteLength data = true) :
      Move (.busWrite data) s ((s.fillTx data).enter (.busWrite data) .acquire)
  | readAccepted {s : State} {data : List Byte} {n : BitVec 5} (hq : s.seq = .idle)
      (h : legalWriteLength data = true) (h' : legalReadLength n = true) :
      Move (.busWriteThenRead data n) s ((s.fillTx data).enter (.busWriteThenRead data n) .acquire)
  | plainAccepted {s : State} {i : Instr} {code : Half} (hq : s.seq = .idle) (h : commandCode i = some code)
      (ha : opArg i = none) : Move i s ((s.latchCmd code).enter i .encode)
  | argAccepted {s : State} {i : Instr} {code a : Half} (hq : s.seq = .idle) (h : commandCode i = some code)
      (ha : opArg i = some a) : Move i s (((s.latchCmd code).latchArg a).enter i .encode)
  | builtN {s : State} {i : Instr} (hq : s.seq = .encode) (hc : s.cur = some i)
      (h : i = .startMeasurement ∨ i = .readMeasurements) : Move i s (s.encodeN.goto .acquire)
  | builtA {s : State} {i : Instr} (hq : s.seq = .encode) (hc : s.cur = some i)
      (h : (∃ a, i = .setInterval a) ∨ (∃ a, i = .calibrate a)) : Move i s (s.encodeA.goto .acquire)
  | acquiring {s : State} {i : Instr} (hq : s.seq = .acquire) (hc : s.cur = some i)
      (h : hasPhase i .acquire = true) : Move i s s.acquire
  | sent {s : State} {i : Instr} (hq : s.seq = .transfer) (hc : s.cur = some i)
      (h : hasPhase i .transfer = true) : Move i s (s.transmit s.txBytes)
  | written {s : State} {i : Instr} (hq : s.seq = .release) (hc : s.cur = some i)
      (h : (∃ data, i = .busWrite data) ∨ i = .startMeasurement ∨ (∃ a, i = .setInterval a) ∨
        (∃ a, i = .calibrate a)) : Move i s s.release.finish
  | rawRead {s : State} {data : List Byte} {n : BitVec 5} (hq : s.seq = .release)
      (hc : s.cur = some (.busWriteThenRead data n)) :
      Move (.busWriteThenRead data n) s s.release.receive.finish
  | readDone {s : State} (hq : s.seq = .release) (hc : s.cur = some .readMeasurements)
      (h : s.xfer.completed = true) : Move .readMeasurements s (s.release.receive.goto .decode)
  | readFailed {s : State} (hq : s.seq = .release) (hc : s.cur = some .readMeasurements)
      (h : s.xfer.completed = false) : Move .readMeasurements s s.release.receive.dropSample.finish
  | sampled {s : State} {c t h : Word32} (hq : s.seq = .decode) (hc : s.cur = some .readMeasurements)
      (hd : s.decodeSample = some (c, t, h)) : Move .readMeasurements s (s.storeSample c t h).finish
  | sampleFault {s : State} (hq : s.seq = .decode) (hc : s.cur = some .readMeasurements)
      (hd : s.decodeSample = none) : Move .readMeasurements s s.raiseFault
  | frameSent {s : State} {i : Instr} {bytes : List Byte} (hq : s.seq = .transfer) (h : encode i = .frame bytes) :
      Move i s (s.transmit bytes)
  | frameWaits {s : State} {i : Instr} {bytes : List Byte} (hq : s.seq ≠ .transfer) (h : encode i = .frame bytes) :
      Move i s s

/-- Whatever an instruction does is one of the moves. -/
theorem exec_move {i : Instr} {s t : State} (h : exec i s = .next t) : Move i s t := by
  have frame : ∀ {bytes}, encode i = .frame bytes → s.sendFrame bytes = .next t → Move i s t := by
    intro bytes he hs
    unfold State.sendFrame at hs
    split at hs
    case h_1 hq => cases hs; exact .frameSent hq he
    all_goals (next hq => cases hs; exact .frameWaits (by simp [hq]) he)
  cases i with
  | crc8 data =>
    obtain ⟨hr, h⟩ | ⟨hq, hc, h⟩ := serve_cases h
    · split at h
      case h_1 hq => cases h; exact .checksum data hq
      all_goals cases h
    · cases h; exact .held hq hc ⟨_, rfl⟩
  | decodeFloat off =>
    obtain ⟨hr, h⟩ | ⟨hq, hc, h⟩ := serve_cases h
    · split at h
      case h_1 hq =>
        split at h
        · next bits hd => cases h; exact .decoded hq hd
        · next hd => cases h; exact .outOfBounds hq hd
      all_goals cases h
    · cases h; exact .held hq hc ⟨_, rfl⟩
  | busWrite data =>
    obtain ⟨hr, h⟩ | ⟨hq, hc, h⟩ := serve_cases h
    · split at h
      case h_1 hq =>
        split at h
        · next hl => cases h; exact .writeAccepted hq hl
        · cases h
      case h_2 hq => cases h; exact .acquiring hq (by simpa [hq] using hr) rfl
      case h_3 hq => cases h; exact .sent hq (by simpa [hq] using hr) rfl
      case h_4 hq => cases h; exact .written hq (by simpa [hq] using hr) (.inl ⟨_, rfl⟩)
      all_goals cases h
    · cases h; exact .held hq hc ⟨_, rfl⟩
  | busWriteThenRead data n =>
    obtain ⟨hr, h⟩ | ⟨hq, hc, h⟩ := serve_cases h
    · split at h
      case h_1 hq =>
        split at h
        · next hl =>
          rw [Bool.and_eq_true] at hl
          cases h; exact .readAccepted hq hl.1 hl.2
        · cases h
      case h_2 hq => cases h; exact .acquiring hq (by simpa [hq] using hr) rfl
      case h_3 hq => cases h; exact .sent hq (by simpa [hq] using hr) rfl
      case h_4 hq => cases h; exact .rawRead hq (by simpa [hq] using hr)
      all_goals cases h
    · cases h; exact .held hq hc ⟨_, rfl⟩
  | startMeasurement =>
    obtain ⟨hr, h⟩ | ⟨hq, hc, h⟩ := serve_cases h
    · split at h
      case h_1 hq => cases h; exact .plainAccepted hq rfl rfl
      case h_2 hq => cases h; exact .builtN hq (by simpa [hq] using hr) (.inl rfl)
      case h_3 hq => cases h; exact .acquiring hq (by simpa [hq] using hr) rfl
      case h_4 hq => cases h; exact .sent hq (by simpa [hq] using hr) rfl
      case h_5 hq => cases h; exact .written hq (by simpa [hq] using hr) (.inr (.inl rfl))
      all_goals cases h
    · cases h; exact .held hq hc ⟨_, rfl⟩
  | setInterval a =>
    obtain ⟨hr, h⟩ | ⟨hq, hc, h⟩ := serve_cases h
    · split at h
      case h_1 hq => cases h; exact .argAccepted hq rfl rfl
      case h_2 hq => cases h; exact .builtA hq (by simpa [hq] using hr) (.inl ⟨_, rfl⟩)
      case h_3 hq => cases h; exact .acquiring hq (by simpa [hq] using hr) rfl
      case h_4 hq => cases h; exact .sent hq (by simpa [hq] using hr) rfl
      case h_5 hq => cases h; exact .written hq (by simpa [hq] using hr) (.inr (.inr (.inl ⟨_, rfl⟩)))
      all_goals cases h
    · cases h; exact .held hq hc ⟨_, rfl⟩
  | calibrate a =>
    obtain ⟨hr, h⟩ | ⟨hq, hc, h⟩ := serve_cases h
    · split at h
      case h_1 hq => cases h; exact .argAccepted hq rfl rfl
      case h_2 hq => cases h; exact .builtA hq (by simpa [hq] using hr) (.inr ⟨_, rfl⟩)
      case h_3 hq => cases h; exact .acquiring hq (by simpa [hq] using hr) rfl
      case h_4 hq => cases h; exact .sent hq (by simpa [hq] using hr) rfl
      case h_5 hq => cases h; exact .written hq (by simpa [hq] using hr) (.inr (.inr (.inr ⟨_, rfl⟩)))
      all_goals cases h
    · cases h; exact .held hq hc ⟨_, rfl⟩
  | readMeasurements =>
    obtain ⟨hr, h⟩ | ⟨hq, hc, h⟩ := serve_cases h
    · split at h
      case h_1 hq => cases h; exact .plainAccepted hq rfl rfl
      case h_2 hq => cases h; exact .builtN hq (by simpa [hq] using hr) (.inr rfl)
      case h_3 hq => cases h; exact .acquiring hq (by simpa [hq] using hr) rfl
      case h_4 hq => cases h; exact .sent hq (by simpa [hq] using hr) rfl
      case h_5 hq =>
        split at h
        · next hx => cases h; exact .readDone hq (by simpa [hq] using hr) hx
        · next hx => cases h; exact .readFailed hq (by simpa [hq] using hr) (by simpa using hx)
      case h_6 hq =>
        split at h
        · next c t' h' hd => cases h; exact .sampled hq (by simpa [hq] using hr) hd
        · next hd => cases h; exact .sampleFault hq (by simpa [hq] using hr) hd
    · cases h; exact .held hq hc ⟨_, rfl⟩
  | wireStartMeasurement => exact frame rfl h
  | wireReadMeasurements => exact frame rfl h
  | wireSetInterval a c => exact frame rfl h
  | wireCalibrate a c => exact frame rfl h

/-- A move of the machine: a request taken and run, a move of the host, or a move of the operation in progress or of its
frame. -/
theorem advance_move {s t : State} (h : s.advance = .next t) :
    (s.seq = .idle ∧ ∃ r rest, s.requests = r :: rest ∧
      Move (decodeRequest r) ({ s with requests := rest } : State) t) ∨
    (s.seq = .idle ∧ s.requests = [] ∧ t = s.hostStep) ∨
    (s.seq ≠ .idle ∧ ∃ i, s.cur = some i ∧ Move i s t) ∨
    (s.seq = .transfer ∧ ∃ i, decode (.frame s.txBytes) = .ok i ∧ Move i s t) := by
  have goOn : s.seq ≠ .idle → s.continueOp = .next t → s.seq ≠ .idle ∧ ∃ i, s.cur = some i ∧ Move i s t := by
    intro hq hc
    unfold State.continueOp at hc
    split at hc
    · next i hi => exact ⟨hq, i, hi, exec_move hc⟩
    · cases hc
  unfold State.advance at h
  split at h
  case h_1 hq =>
    unfold State.runRequest at h
    split at h
    · next r rest hr => exact .inl ⟨hq, r, rest, hr, exec_move h⟩
    · next hr => cases h; exact .inr (.inl ⟨hq, hr, rfl⟩)
  case h_2 hq =>
    unfold State.runFrame at h
    split at h
    · next i hi => exact .inr (.inr (.inr ⟨hq, i, hi, exec_move h⟩))
    · exact .inr (.inr (.inl (goOn (by simp [hq]) h)))
  all_goals (next hq => exact .inr (.inr (.inl (goOn (by simp [hq]) h))))

end Sys2Proof.Machine
end

