-- ==== Sys2Proof/Laws/PerInstr.lean ====
section
/-! SUPPORT. Statements for all instructions, one lemma per constructor. -/

namespace Sys2Proof.Laws

/-- The bytes of a 16-bit value join to it again (spec/20_memory.md R42). -/
theorem join_hi_lo (v : Half) : Machine.joinBytes (Machine.hiByte v) (Machine.loByte v) = v := by
  simp only [Machine.joinBytes, Machine.hiByte, Machine.loByte]
  apply BitVec.eq_of_getLsbD_eq
  intro k hk
  rw [BitVec.getLsbD_append]
  split
  · simp; omega
  · simp only [BitVec.getLsbD_extractLsb']
    rw [show 8 + (k - 8) = k by omega]
    simp; omega

/-- Decoding the encoding of a well-formed instruction gives it back. -/
def RoundTrip.Statement (i : Instr) : Prop := i.wellFormed = true → decode (encode i) = .ok i

theorem RoundTrip.crc8 (data : List Byte) : Statement (.crc8 data) := by
  simp [Statement, encode, decode, decodeRequest]

theorem RoundTrip.decodeFloat (off : BitVec 5) : Statement (.decodeFloat off) := by
  simp [Statement, encode, decode, decodeRequest]

theorem RoundTrip.busWrite (data : List Byte) : Statement (.busWrite data) := by
  simp [Statement, encode, decode, decodeRequest]

theorem RoundTrip.busWriteThenRead (data : List Byte) (n : BitVec 5) : Statement (.busWriteThenRead data n) := by
  simp [Statement, encode, decode, decodeRequest]

theorem RoundTrip.startMeasurement : Statement .startMeasurement := by
  simp [Statement, encode, decode, decodeRequest]

theorem RoundTrip.setInterval (arg : Half) : Statement (.setInterval arg) := by
  simp [Statement, encode, decode, decodeRequest]

theorem RoundTrip.calibrate (arg : Half) : Statement (.calibrate arg) := by
  simp [Statement, encode, decode, decodeRequest]

theorem RoundTrip.readMeasurements : Statement .readMeasurements := by
  simp [Statement, encode, decode, decodeRequest]

theorem RoundTrip.wireStartMeasurement : Statement .wireStartMeasurement := fun _ => rfl

theorem RoundTrip.wireReadMeasurements : Statement .wireReadMeasurements := fun _ => rfl

theorem RoundTrip.wireSetInterval (arg : Half) (crc : Byte) : Statement (.wireSetInterval arg crc) := by
  intro _
  simp [encode, decode, frameA, decodeFrame, join_hi_lo]

theorem RoundTrip.wireCalibrate (arg : Half) (crc : Byte) : Statement (.wireCalibrate arg crc) := by
  intro _
  simp [encode, decode, frameA, decodeFrame, join_hi_lo, Config.params]

end Sys2Proof.Laws
end

