-- ==== Sys2Proof/Laws/Steps.lean ====
section
/-! SUPPORT. What a step can do, said over the invariant: the inputs do not matter to it, a consumer call changes nothing of
the block, the host's move changes nothing of the block, and an operation in progress takes one of nine moves. -/

namespace Sys2Proof.Machine

variable {s t : State} {i : Instr}

/-! ## Steps as a whole -/

/-- A consumer call writes the worker and the consumer, nothing else. -/
theorem consumerCall_next {c : ConsumerCall} (h : s.consumerCall c = .next t) :
    ∃ w k, t = { s with worker := w, consumer := k } := by
  unfold State.consumerCall at h
  split at h
  · unfold State.callWorker at h
    split at h
    · cases h
    · split at h
      · split at h <;> cases h
      · cases h; exact ⟨_, _, rfl⟩
    · split at h <;> cases h
      exact ⟨_, _, rfl⟩
    all_goals (cases h; exact ⟨_, _, rfl⟩)
  · split at h
    · split at h <;> cases h
      exact ⟨_, _, rfl⟩
    all_goals cases h

/-- A step to a next state: the reset event, a step outside the block, or a move of the machine from the state with its
inputs as they were or with one taken. -/
theorem step_next_cases (h : step s = .next t) :
    (s.resetting ∧ ∃ rest, t = ({ s with inputs := rest } : State).resetBlock) ∨
    (∃ l w k, t = { s with inputs := l, worker := w, consumer := k }) ∨
    (∃ l, ({ s with inputs := l } : State).advance = .next t) := by
  obtain ⟨rest, hi, h⟩ | ⟨c, rest, -, -, h⟩ | ⟨rest, -, h⟩ | ⟨rest, -, h⟩ | h := step_cases h
  · cases h
    exact .inl ⟨⟨rest, hi⟩, rest, rfl⟩
  · obtain ⟨w, k, rfl⟩ := consumerCall_next h.symm
    exact .inr (.inl ⟨rest, w, k, rfl⟩)
  · unfold State.otherTraffic at h
    split at h <;> cases h
    exact .inr (.inl ⟨rest, s.worker, s.consumer, rfl⟩)
  · exact .inr (.inr ⟨rest, h.symm⟩)
  · exact .inr (.inr ⟨s.inputs, h.symm⟩)

/-- Outside `IDLE` and `TRANSFER` a quiet step runs the operation in progress. -/
theorem step_current (hi : s.inputs = []) (hq : s.seq ≠ .idle) (hq' : s.seq ≠ .transfer) (hc : s.cur = some i) :
    step s = exec i s := by
  rw [step_quiet hi]
  unfold State.advance State.continueOp
  split <;> simp_all

/-- The host's move touches no register, buffer or flag of the block. -/
theorem hostStep_block (s : State) :
    s.hostStep.seq = s.seq ∧ s.hostStep.crc = s.crc ∧ s.hostStep.cmd = s.cmd ∧ s.hostStep.arg = s.arg ∧
    s.hostStep.tx = s.tx ∧ s.hostStep.txLen = s.txLen ∧ s.hostStep.rx = s.rx ∧ s.hostStep.rxLen = s.rxLen ∧
    s.hostStep.ok = s.ok ∧ s.hostStep.valid = s.valid ∧ s.hostStep.fault = s.fault ∧
    s.hostStep.busOwned = s.busOwned ∧ s.hostStep.cur = s.cur ∧ s.hostStep.busLog = s.busLog := by
  unfold State.hostStep
  split
  · unfold State.workerStep
    split <;> (try split) <;> simp
  · simp

/-- A move of the machine takes no input and writes nothing of the consumer. -/
theorem advance_outside (h : s.advance = .next t) : t.inputs = s.inputs ∧ t.consumer = s.consumer := by
  have move : ∀ {i : Instr} {s : State}, Move i s t → t.inputs = s.inputs ∧ t.consumer = s.consumer := by
    intro i s hm; cases hm <;> simp
  obtain ⟨-, r, rest, -, hm⟩ | ⟨-, -, rfl⟩ | ⟨-, i, -, hm⟩ | ⟨-, i, -, hm⟩ := advance_move h
  · exact move (s := { s with requests := rest }) hm
  · unfold State.hostStep
    split
    · unfold State.workerStep
      split <;> (try split) <;> simp
    · simp
  · exact move hm
  · exact move hm

/-! ## Frames on the bus -/

theorem sendFrame_transfer (bytes : List Byte) (hq : s.seq = .transfer) :
    s.sendFrame bytes = .next (s.transmit bytes) := by simp [State.sendFrame, hq]

/-- A frame's meaning is the sending of its encoding. -/
theorem exec_frame {bytes : List Byte} (h : encode i = .frame bytes) (s : State) : exec i s = s.sendFrame bytes := by
  cases i <;> simp [encode] at h <;> subst h <;> rfl

/-! ## Under the invariant -/

/-- The invariant speaks of nine fields. -/
theorem State.Inv.of_block (h : s.Inv) (h1 : t.tx = s.tx) (h2 : t.txLen = s.txLen) (h3 : t.rx = s.rx)
    (h4 : t.rxLen = s.rxLen) (h5 : t.busOwned = s.busOwned) (h6 : t.seq = s.seq) (h7 : t.cur = s.cur)
    (h8 : t.cmd = s.cmd) (h9 : t.arg = s.arg) : t.Inv := by
  have hb : t.txBytes = s.txBytes := by simp only [State.txBytes, h1, h2]
  exact ⟨h1 ▸ h.txWf, h3 ▸ h.rxWf, h2 ▸ h.txBound, h4 ▸ h.rxBound, h1 ▸ h2 ▸ h.txFilled, h3 ▸ h4 ▸ h.rxFilled,
    h5 ▸ h6 ▸ h.owned, h6 ▸ h7 ▸ h.idle, h6 ▸ h7 ▸ h.phase, h7 ▸ h8 ▸ h.latchCmd, h7 ▸ h9 ▸ h.latchArg,
    by rw [h6, h7, hb]; exact h.frame, by rw [h6, h4]; exact h.response⟩

theorem State.Inv.withInputs (h : s.Inv) (l : List Input) : ({ s with inputs := l } : State).Inv :=
  h.of_block rfl rfl rfl rfl rfl rfl rfl rfl rfl

/-- In `IDLE` no operation is in progress. -/
theorem State.Inv.cur_idle (h : s.Inv) (hq : s.seq = .idle) : s.cur = none := by
  cases hc : s.cur with
  | none => rfl
  | some i =>
    have := (h.phase i hc).1
    rw [hq] at this
    cases i <;> simp [hasPhase] at this

/-- In `DECODE` the response is whole, so its three floats are there. -/
theorem State.Inv.decodeSample_ne_none (h : s.Inv) (hq : s.seq = .decode) : s.decodeSample ≠ none := by
  have hl : s.rxLen.toNat = 18 := by rw [h.response hq]; rfl
  obtain ⟨a, ha⟩ := Option.isSome_iff_exists.1 (decodeAt_isSome (off := 0) h.rxFilled (by omega))
  obtain ⟨b, hb⟩ := Option.isSome_iff_exists.1 (decodeAt_isSome (off := 6) h.rxFilled (by omega))
  obtain ⟨c, hc⟩ := Option.isSome_iff_exists.1 (decodeAt_isSome (off := 12) h.rxFilled (by omega))
  simp [State.decodeSample, Config.params, ha, hb, hc]

/-- What an operation in progress can do: the moves of `Move` that the invariant leaves to it. -/
inductive OpMove (i : Instr) (s : State) : State → Prop where
  | builtN (hq : s.seq = .encode) (h : i = .startMeasurement ∨ i = .readMeasurements) :
      OpMove i s (s.encodeN.goto .acquire)
  | builtA (hq : s.seq = .encode) (h : (∃ a, i = .setInterval a) ∨ (∃ a, i = .calibrate a)) :
      OpMove i s (s.encodeA.goto .acquire)
  | acquiring (hq : s.seq = .acquire) (h : hasPhase i .acquire = true) : OpMove i s s.acquire
  | sent (hq : s.seq = .transfer) (h : hasPhase i .transfer = true) : OpMove i s (s.transmit (opBytes i))
  | written (hq : s.seq = .release)
      (h : (∃ data, i = .busWrite data) ∨ i = .startMeasurement ∨ (∃ a, i = .setInterval a) ∨
        (∃ a, i = .calibrate a)) : OpMove i s s.release.finish
  | rawRead {data : List Byte} {n : BitVec 5} (hi : i = .busWriteThenRead data n) (hq : s.seq = .release) :
      OpMove i s s.release.receive.finish
  | readDone (hi : i = .readMeasurements) (hq : s.seq = .release) (h : s.xfer.completed = true) :
      OpMove i s (s.release.receive.goto .decode)
  | readFailed (hi : i = .readMeasurements) (hq : s.seq = .release) (h : s.xfer.completed = false) :
      OpMove i s s.release.receive.dropSample.finish
  | sampled {c t h : Word32} (hi : i = .readMeasurements) (hq : s.seq = .decode)
      (hd : s.decodeSample = some (c, t, h)) : OpMove i s (s.storeSample c t h).finish

/-- A move of the operation in progress is one of the nine. -/
theorem Move.operation (h : Move i s t) (hinv : s.Inv) (hc : s.cur = some i) (hq : s.seq ≠ .idle) : OpMove i s t := by
  have hp := (hinv.phase i hc).1
  cases h with
  | held _ hc' => exact absurd hc hc'
  | builtN hq _ h => exact .builtN hq h
  | builtA hq _ h => exact .builtA hq h
  | acquiring hq _ h => exact .acquiring hq h
  | sent hq _ h => rw [hinv.frame i hc (by simp [hq])]; exact .sent hq h
  | written hq _ h => exact .written hq h
  | rawRead hq _ => exact .rawRead rfl hq
  | readDone hq _ h => exact .readDone rfl hq h
  | readFailed hq _ h => exact .readFailed rfl hq h
  | sampled hq _ h => exact .sampled rfl hq h
  | sampleFault hq _ h => exact absurd h (hinv.decodeSample_ne_none hq)
  | frameSent hq h => cases i <;> simp_all [encode, hasPhase]
  | frameWaits hq h => cases i <;> simp_all [encode, hasPhase]
  | _ => contradiction

/-- A meaning raises a fault only for an operation in a phase it does not have. -/
theorem exec_fault {f : Fault} (h : exec i s = .fault f) :
    s.seq ≠ .idle ∧ s.cur = some i ∧ hasPhase i s.seq = false := by
  have served : ∀ r : Result, s.serve i r = .fault f → r = .fault f ∧ (s.seq = .idle ∨ s.cur = some i) := by
    intro r hr
    obtain ⟨a, rfl⟩ | ⟨_, _, b⟩ := serve_cases hr
    · exact ⟨rfl, a⟩
    · cases b
  have sent : ∀ bytes, s.sendFrame bytes ≠ .fault f := by
    intro bytes hs
    unfold State.sendFrame at hs
    split at hs <;> cases hs
  cases i with
  | wireStartMeasurement => exact absurd h (sent _)
  | wireReadMeasurements => exact absurd h (sent _)
  | wireSetInterval => exact absurd h (sent _)
  | wireCalibrate => exact absurd h (sent _)
  | _ =>
    obtain ⟨h, hc⟩ := served _ h
    split at h <;> (try split at h) <;> simp_all [hasPhase]

end Sys2Proof.Machine
end

