-- ==== Sys2Proof/Tests/Slice0.lean ====
section
/-! SUPPORT. The model's own tests: ill-formed instructions refused, every constructor decoded from a word written out from
spec/30_encoding.md, single steps with the expected results of spec/95_test_vectors.md, and for each obligation with
hypotheses a witness that meets them. -/

namespace Sys2Proof.Tests

open Sys2Proof.Machine

/-! ## Small states -/

/-- An idle block whose receive buffer holds `bytes`, with the given requests presented. -/
def loaded (bytes : List Byte) (requests : List Request) : State :=
  { State.reset with rx := Memory.write [] 0 bytes, rxLen := BitVec.ofNat 5 bytes.length, requests := requests }

/-- An idle block asked for `i`, the bus granted at once, the transfer answered by `a`. -/
def asked (i : Instr) (a : Answer) : State :=
  { State.reset with requests := requestFor i, grants := [true], transfers := [a] }

/-- A block in phase `p` of operation `i`: its latches and its frame its own, eighteen bytes of zeros in `RX`. -/
def doing (i : Instr) (p : Phase) : State :=
  { State.reset with
    seq := p, cur := some i, cmd := (commandCode i).getD 0, arg := (opArg i).getD 0
    tx := Memory.write [] 0 (opBytes i), txLen := BitVec.ofNat 3 (opBytes i).length
    busOwned := p == .transfer || p == .release
    rx := Memory.write [] 0 (List.replicate 18 0), rxLen := 18 }

/-- The answers of a target that completes, and of one that does not. -/
def good (rxdata : List Byte) : Answer := { completed := true, rxdata := rxdata, taken := 0 }
def bad : Answer := { completed := false, rxdata := [], taken := 1 }

/-- The response of V-CMD-5. -/
def response : List Byte :=
  [0x00, 0x40, 0xCE, 0x43, 0xAA, 0xAA, 0x00, 0x00, 0xC8, 0x41, 0xAA, 0xAA, 0x00, 0x00, 0x43, 0x42, 0xAA, 0xAA]

/-- What a result says of a field; none where it is no next state. -/
def see {α : Type} (r : Result) (f : State → α) : Option α :=
  match r with
  | .next t    => some (f t)
  | .fault _   => none
  | .refused _ => none

/-- A worker in its loop thread. -/
def looping (pos : WorkerPos) : Worker := { newWorker 5000 with running := true, started := true, pos := pos }

def withWorker (w : Worker) : State := { State.reset with worker := some w }

/-- A Sample of 412.5 ppm, and a worker that has published it. -/
def measured : Sample := { Sample.placeholder with valid := true, co2 := 0x43CE4000, timestamp := "2024-1-2 3:04:05" }
def publishedWorker : Worker := { looping .sleep with latestSample := measured, hasUnread := true }

/-- A consumer that has logged `measured`. -/
def logged : Consumer := { answer := .nothing, log := [logRecord measured] }

/-! ## Well-formedness: one ill-formed term for each check -/

theorem test_wf_empty_write : (Instr.busWrite []).wellFormed = false := by decide
theorem test_wf_six_bytes : (Instr.busWrite [1, 2, 3, 4, 5, 6]).wellFormed = false := by decide
theorem test_wf_empty_write_then_read : (Instr.busWriteThenRead [] 18).wellFormed = false := by decide
theorem test_wf_read_zero : (Instr.busWriteThenRead [3, 0] 0).wellFormed = false := by decide
theorem test_wf_read_nineteen : (Instr.busWriteThenRead [3, 0] 19).wellFormed = false := by decide
theorem test_wf_interval_crc : (Instr.wireSetInterval 0x0258 0x20).wellFormed = false := by decide +kernel
theorem test_wf_calibrate_crc : (Instr.wireCalibrate 0x0190 0x00).wellFormed = false := by decide +kernel
theorem test_wf_legal : (Instr.busWriteThenRead [3, 0] 18).wellFormed = true := by decide

/-! ## Decoding: a word for every constructor (R63, R67) -/

theorem test_decode_requests :
    decodeTableWord 3 0b000 = some (.crc8 [0]) ∧ decodeTableWord 3 0b001 = some (.decodeFloat 0) ∧
    decodeTableWord 3 0b010 = some (.busWrite [0]) ∧ decodeTableWord 3 0b011 = some (.busWriteThenRead [0] 1) ∧
    decodeTableWord 3 0b100 = some .startMeasurement ∧ decodeTableWord 3 0b101 = some (.setInterval 0) ∧
    decodeTableWord 3 0b110 = some (.calibrate 0) ∧ decodeTableWord 3 0b111 = some .readMeasurements := by decide

theorem test_decode_frames :
    decodeTableWord 16 0x0010 = some .wireStartMeasurement ∧ decodeTableWord 16 0x0300 = some .wireReadMeasurements ∧
    decodeTableWord 40 0x460002589F = some (.wireSetInterval 0x0258 0x9F) ∧
    decodeTableWord 40 0x520401904C = some (.wireCalibrate 0x0190 0x4C) := by decide +kernel

theorem test_decode_unknown : decode (.frame [0x46, 0x01]) = .error .unknownCommand := by decide +kernel
theorem test_decode_length : decode (.frame [0x46, 0x00]) = .error .wrongLength := by decide +kernel
theorem test_decode_truncated : decode (.frame [0x46]) = .error .truncated := by decide

/-- The word of SET_INTERVAL's frame, placed, is what the next step puts on the bus. -/
theorem test_placed_frame_goes_out :
    see (step (State.reset.withFetchWord 40 0x460002589F)) (fun t => t.busLog.map Transaction.written) =
      some [[0x46, 0x00, 0x02, 0x58, 0x9F]] := by decide +kernel

/-- The word of CRC8, placed, runs in one step on the operand of zeros (V-CRC-2). -/
theorem test_placed_request_runs : see (step (State.reset.withFetchWord 3 0)) State.crc = some 0xAC := by decide +kernel

/-! ## Single steps -/

/-- V-CRC-4. -/
theorem test_crc8_known : see (exec (.crc8 [0xBE, 0xEF]) State.reset) State.crc = some 0x92 := by decide +kernel

/-- V-CRC-17. -/
theorem test_crc8_nine : crc8 [0x31, 0x32, 0x33, 0x34, 0x35, 0x36, 0x37, 0x38, 0x39] = 0xF7 := by decide +kernel

/-- P3: an unaligned decode. -/
theorem test_decode_float_order :
    see (exec (.decodeFloat 2) (loaded [0x00, 0x40, 0xCE, 0x43, 0x11, 0x22] [])) State.fRes = some 0x221143CE := by
  decide +kernel

/-- V-FLT-F5. -/
theorem test_decode_float_fault :
    see (exec (.decodeFloat 3) (loaded [0x00, 0x40, 0xCE, 0x43, 0x11, 0x22] [])) State.fault = some true := by
  decide +kernel

/-- V-BUS-6. -/
theorem test_bus_write_accepts :
    see (exec (.busWrite [1, 2, 3, 4, 5]) State.reset) (fun t => (t.seq, t.txLen, t.txBytes)) =
      some (.acquire, 5, [1, 2, 3, 4, 5]) := by decide +kernel

/-- V-BUS-2: a transfer that fails after one byte. -/
theorem test_bus_write_sends :
    see (exec (.busWrite [0x00, 0x10]) { doing (.busWrite [0x00, 0x10]) .transfer with transfers := [bad] })
      (fun t => t.busLog) =
      some [{ address := 0xC2, written := [0x00, 0x10], readLen := 0, completed := false, received := [0x00] }] := by
  decide +kernel

/-- V-BUS-11. -/
theorem test_read_one_byte :
    see (exec (.busWriteThenRead [3, 0] 1)
      { doing (.busWriteThenRead [3, 0] 1) .release with xfer := { completed := true, rxdata := [0x7E] } })
      (fun t => (t.rx.get 0, t.rxLen, t.ok, t.busOwned)) = some (some 0x7E, 1, true, false) := by decide +kernel

/-- V-BUS-10. -/
theorem test_read_nineteen_refused :
    see (exec (.busWriteThenRead [3, 0] 19) State.reset) State.seq = none := by decide +kernel

/-- V-FRM-1: `crc` is not written. -/
theorem test_start_frame :
    see (exec .startMeasurement { doing .startMeasurement .encode with crc := 0x5A })
      (fun t => (t.txBytes, t.txLen, t.crc)) = some ([0x00, 0x10], 2, 0x5A) := by decide +kernel

/-- V-FRM-3. -/
theorem test_interval_frame :
    see (exec (.setInterval 600) (doing (.setInterval 600) .encode)) (fun t => (t.txBytes, t.crc)) =
      some ([0x46, 0x00, 0x02, 0x58, 0x9F], 0x9F) := by decide +kernel

/-- V-FRM-13: the argument's byte order. -/
theorem test_calibrate_frame :
    see (exec (.calibrate 256) (doing (.calibrate 256) .encode)) (fun t => (t.txBytes, t.crc)) =
      some ([0x52, 0x04, 0x01, 0x00, 0x75], 0x75) := by decide +kernel

/-- V-CMD-5. -/
theorem test_read_decodes :
    see (exec .readMeasurements { doing .readMeasurements .decode with rx := Memory.write [] 0 response })
      (fun t => (t.fCo2, t.fTemp, t.fHum, t.valid, t.seq)) =
      some (0x43CE4000, 0x41C80000, 0x42430000, true, .idle) := by decide +kernel

/-- V-CMD-7. -/
theorem test_read_fails :
    see (exec .readMeasurements
      { doing .readMeasurements .release with xfer := { completed := false, rxdata := [] }, valid := true })
      (fun t => (t.valid, t.ok, t.rxLen, t.fault, t.seq)) = some (false, false, 0, false, .idle) := by decide +kernel

/-- V-HOST-6. -/
theorem test_publication :
    ([0x43CE4000, 0x00000000, 0x80000000, 0xBFC00000, 0x7FC00001, 0x7F800000, 0x00000001] : List Word32).map
      Binary32.gtZero = [true, false, false, false, false, true, true] := by decide +kernel

/-- V-HOST-7. -/
theorem test_interval_seconds :
    [2000, 2999, 999, 600000, 65535999].map (fun ms => (newWorker ms).intervalSeconds) = [2, 2, 0, 600, 65535] ∧
    legalInterval 65536000 = false := by decide +kernel

/-- R164: taking a published Sample of a new timestamp logs its four fields; the same timestamp again logs nothing. -/
theorem test_take_sample_logs :
    see ((withWorker publishedWorker).consumerCall .takeSample) (fun t => t.consumer.log) =
      some [⟨"2024-1-2 3:04:05", 0x43CE4000, measured.temp, measured.hum⟩] := by rfl

theorem test_take_sample_again :
    see ({ withWorker publishedWorker with consumer := logged }.consumerCall .takeSample) (fun t => t.consumer.log) =
      some logged.log := by
  simp [State.consumerCall, withWorker, State.callWorker, see, Consumer.forward, Consumer.forwards, logged, logRecord,
    publishedWorker]

/-- The two-digit form of a minute or second (R148). -/
theorem test_two_digits : twoDigits 7 = "07" ∧ twoDigits 42 = "42" := by decide +kernel

/-! ## States that meet the invariant -/

theorem opBytes_length {i : Instr} (h : i.wellFormed = true) : (opBytes i).length ≤ 5 := by
  cases i with
  | busWrite data =>
    simp only [Instr.wellFormed, legalWriteLength, Bool.and_eq_true] at h
    exact of_decide_eq_true h.2
  | busWriteThenRead data n =>
    simp only [Instr.wellFormed, legalWriteLength, Bool.and_eq_true] at h
    exact of_decide_eq_true h.1.2
  | _ => simp [opBytes, frameN, frameA]

/-- Eighteen bytes of zeros are there and in canonical form. -/
theorem zeros_filled (a : Nat) (h : a < 18) : (Memory.get (Memory.write [] 0 (List.replicate 18 0)) a).isSome := by
  rw [Memory.get_write, if_pos ⟨Nat.zero_le a, by simpa using h⟩]
  simp [h]

theorem zeros_wf : Memory.wf 18 (Memory.write [] 0 (List.replicate 18 0)) :=
  Memory.wf_write ⟨.nil, by simp⟩ (by simp)

/-- A block in any phase of any well-formed operation meets the invariant. -/
theorem doing_inv {i : Instr} {p : Phase} (hp : hasPhase i p = true) (hw : i.wellFormed = true) : (doing i p).Inv := by
  have hl := opBytes_length hw
  have hn : (BitVec.ofNat 3 (opBytes i).length).toNat = (opBytes i).length := by simp; omega
  refine ⟨Memory.wf_write ⟨.nil, by simp⟩ (by simpa using hl), zeros_wf, ?_, by simp [doing], ?_, ?_, ?_, ?_, ?_, ?_, ?_,
    ?_, fun _ => rfl⟩
  · exact hn.trans_le hl
  · intro a ha
    simp only [doing, hn] at ha ⊢
    rw [Memory.get_write, if_pos ⟨Nat.zero_le a, by omega⟩]
    simp; omega
  · exact fun a ha => zeros_filled a (by simpa [doing] using ha)
  · simp [doing]
  · simp [doing]
  · intro j hj
    cases hj
    exact ⟨hp, hw⟩
  · intro j code hj hc
    cases hj
    simp [doing, hc]
  · intro j a hj ha
    cases hj
    simp [doing, ha]
  · intro j hj _
    cases hj
    exact txBytes_fillTx { State.reset with tx := [] } (opBytes i) hl

/-- An idle block with eighteen bytes in its receive buffer meets the invariant. -/
theorem loaded_inv (requests : List Request) : (loaded (List.replicate 18 0) requests).Inv :=
  ⟨⟨.nil, by simp [loaded, State.reset, State.atReset]⟩, zeros_wf, by simp [loaded, State.reset, State.atReset],
    by simp [loaded], by simp [loaded, State.reset, State.atReset],
    fun a ha => zeros_filled a (by simpa [loaded] using ha), by simp [loaded, State.reset, State.atReset],
    fun _ => rfl, by simp [loaded, State.reset, State.atReset], by simp [loaded, State.reset, State.atReset],
    by simp [loaded, State.reset, State.atReset], by simp [loaded, State.reset, State.atReset],
    by simp [loaded, State.reset, State.atReset]⟩

/-- An idle block asked for an operation, as its own statements ask for it. -/
theorem asked_requested {i : Instr} {r : Request} (a : Answer) (h : requestFor i = [r]) (hd : decodeRequest r = i) :
    (asked i a).Requested i [] := ⟨rfl, rfl, r, h, hd⟩

theorem looping_inv (pos : WorkerPos) (h : pos ≠ .stopped) : (looping pos).Inv :=
  ⟨by simp [looping, newWorker], fun _ => rfl, by simp [looping, newWorker]; decide, fun _ => h, fun _ => rfl,
    by simp [looping, newWorker]⟩

/-! ## Witnesses: a concrete state and operands for the hypotheses of each obligation -/

theorem witness_EncodeThenDecode : ∃ i : Instr, i.wellFormed = true := ⟨.wireSetInterval 600 0x9F, by decide +kernel⟩

theorem witness_DecodedFrameReencodes : ∃ (bytes : List Byte) (i : Instr), decode (.frame bytes) = .ok i :=
  ⟨[0x52, 0x04, 0x01, 0x90, 0x4C], _, rfl⟩

/-- The four codes, and one that is none of them. -/
theorem witness_CommandCodeFixesFrameLength :
    (0x00#8 ++ 0x10#8 = 0x0010#16) ∧ (0x03#8 ++ 0x00#8 = 0x0300#16) ∧ (0x46#8 ++ 0x00#8 = 0x4600#16) ∧
    (0x52#8 ++ 0x04#8 = 0x5204#16) ∧
    (0x52#8 ++ 0x05#8 ≠ 0x0010#16 ∧ 0x52#8 ++ 0x05#8 ≠ 0x0300#16 ∧ 0x52#8 ++ 0x05#8 ≠ 0x4600#16 ∧
      0x52#8 ++ 0x05#8 ≠ 0x5204#16) := by decide

theorem witness_Crc8WritesChecksum : State.reset.seq = .idle := rfl

/-- The last offset in bounds of a full buffer (V-FLT-F1). -/
theorem witness_DecodeFloatInBounds :
    let s := loaded (List.replicate 18 0) []
    s.seq = .idle ∧ (14 : BitVec 5).toNat + 4 ≤ s.rxLen.toNat ∧ s.rx.get 14 = some 0 ∧ s.rx.get 15 = some 0 ∧
      s.rx.get 16 = some 0 ∧ s.rx.get 17 = some 0 := by decide +kernel

/-- The first offset out of bounds of a full buffer (V-FLT-F2). -/
theorem witness_DecodeFloatOutOfBounds :
    let s := loaded (List.replicate 18 0) []
    s.seq = .idle ∧ s.cur = none ∧ (15 : BitVec 5).toNat + 4 > s.rxLen.toNat := by decide +kernel

theorem witness_IllegalLengthsRefused :
    State.reset.seq = .idle ∧
    ¬ (1 ≤ ([] : List Byte).length ∧ ([] : List Byte).length ≤ 5) ∧
    ¬ (1 ≤ ([1, 2, 3, 4, 5, 6] : List Byte).length ∧ ([1, 2, 3, 4, 5, 6] : List Byte).length ≤ 5) ∧
    ¬ (1 ≤ ([3, 0] : List Byte).length ∧ ([3, 0] : List Byte).length ≤ 5 ∧
      1 ≤ (0 : BitVec 5).toNat ∧ (0 : BitVec 5).toNat ≤ 18) ∧
    ¬ (1 ≤ ([3, 0] : List Byte).length ∧ ([3, 0] : List Byte).length ≤ 5 ∧
      1 ≤ (19 : BitVec 5).toNat ∧ (19 : BitVec 5).toNat ≤ 18) := by decide

theorem witness_RawTransportAccepted :
    State.reset.seq = .idle ∧ 1 ≤ ([7] : List Byte).length ∧ ([1, 2, 3, 4, 5] : List Byte).length ≤ 5 ∧
    1 ≤ (1 : BitVec 5).toNat ∧ (18 : BitVec 5).toNat ≤ 18 := by decide

/-- A grant, a wait, and no answer any more. -/
theorem witness_AcquireHoldsUntilGrant :
    let i : Instr := .busWrite [0x00, 0x10]
    hasPhase i .acquire = true ∧ (doing i .acquire).cur = some i ∧ (doing i .acquire).seq = .acquire ∧
    ({ doing i .acquire with grants := [true] } : State).grants = true :: [] ∧
    ({ doing i .acquire with grants := [false, true] } : State).grants = false :: [true] ∧
    (doing i .acquire).grants = [] := ⟨rfl, rfl, rfl, rfl, rfl, rfl⟩

theorem witness_TransferSendsTransmitBuffer :
    let i : Instr := .setInterval 600
    hasPhase i .transfer = true ∧ (doing i .transfer).cur = some i ∧ (doing i .transfer).seq = .transfer :=
  ⟨rfl, rfl, rfl⟩

/-- One of each of the four write-only operations. -/
theorem witness_WriteReleaseDeliversOk :
    ∀ i ∈ [Instr.busWrite [0x00, 0x10], .startMeasurement, .setInterval 600, .calibrate 400],
      ((∃ data, i = .busWrite data) ∨ i = .startMeasurement ∨ (∃ a, i = .setInterval a) ∨ (∃ a, i = .calibrate a)) ∧
      (doing i .release).cur = some i ∧ (doing i .release).seq = .release := by
  intro i hi
  refine ⟨?_, rfl, rfl⟩
  simp only [List.mem_cons, List.not_mem_nil, or_false] at hi
  rcases hi with rfl | rfl | rfl | rfl <;> simp

/-- A completed read of eighteen bytes, and a byte at its last place. -/
theorem witness_RawReadReleaseFillsReceiveBuffer :
    let i : Instr := .busWriteThenRead [3, 0] 18
    let s : State := { doing i .release with xfer := { completed := true, rxdata := response } }
    s.cur = some i ∧ s.seq = .release ∧ (18 : BitVec 5).toNat ≤ 18 ∧ s.xfer.completed = true ∧
      17 < (18 : BitVec 5).toNat ∧ s.xfer.rxdata[17]? = some 0xAA := ⟨rfl, rfl, by decide, rfl, by decide, rfl⟩

theorem witness_CommandLatchesOperands : State.reset.seq = .idle := rfl

theorem witness_FormatNFrameBuilt :
    ∀ i ∈ [Instr.startMeasurement, .readMeasurements], (i = .startMeasurement ∨ i = .readMeasurements) ∧
      (doing i .encode).cur = some i ∧ (doing i .encode).seq = .encode :=
  fun i hi => ⟨by simpa using hi, rfl, rfl⟩

theorem witness_FormatAFrameBuilt :
    ∀ i ∈ [Instr.setInterval 600, .calibrate 400], ((∃ a, i = .setInterval a) ∨ (∃ a, i = .calibrate a)) ∧
      (doing i .encode).cur = some i ∧ (doing i .encode).seq = .encode := by
  intro i hi
  refine ⟨?_, rfl, rfl⟩
  simp only [List.mem_cons, List.not_mem_nil, or_false] at hi
  rcases hi with rfl | rfl <;> simp

theorem witness_FailedReadDropsSample :
    let s := doing .readMeasurements .release
    s.cur = some .readMeasurements ∧ s.seq = .release ∧ s.xfer.completed = false := ⟨rfl, rfl, rfl⟩

theorem witness_ResponseDecoded :
    let s := doing .readMeasurements .decode
    s.cur = some .readMeasurements ∧ s.seq = .decode ∧ s.rxLen = 18 ∧ ∀ k, k < 18 → s.rx.get k = some 0 := by
  refine ⟨rfl, rfl, rfl, fun k hk => ?_⟩
  simp only [doing]
  rw [Memory.get_write, if_pos ⟨Nat.zero_le k, by simpa using hk⟩]
  simp [hk, -List.reduceReplicate]

theorem witness_BusWriteRuns :
    let s := asked (.busWrite [1, 2, 3, 4, 5]) bad
    s.Requested (.busWrite [1, 2, 3, 4, 5]) [] ∧ s.cur = none ∧ s.busOwned = false ∧
      1 ≤ ([1, 2, 3, 4, 5] : List Byte).length ∧ ([1, 2, 3, 4, 5] : List Byte).length ≤ 5 ∧ s.grants = true :: [] :=
  ⟨asked_requested _ rfl (by decide), rfl, rfl, by decide, by decide, rfl⟩

theorem witness_BusWriteThenReadRuns :
    let s := asked (.busWriteThenRead [3, 0] 1) (good [0x7E])
    s.Requested (.busWriteThenRead [3, 0] 1) [] ∧ 1 ≤ ([3, 0] : List Byte).length ∧ ([3, 0] : List Byte).length ≤ 5 ∧
      1 ≤ (1 : BitVec 5).toNat ∧ (1 : BitVec 5).toNat ≤ 18 ∧ s.grants = true :: [] ∧ s.answer.completed = true ∧
      0 < (1 : BitVec 5).toNat ∧ s.answer.rxdata[0]? = some 0x7E :=
  ⟨asked_requested _ rfl (by decide), by decide, by decide, by decide, by decide, rfl, rfl, by decide, rfl⟩

theorem witness_StartMeasurementRuns :
    let s := asked .startMeasurement bad
    s.Requested .startMeasurement [] ∧ s.cur = none ∧ s.busOwned = false ∧ s.grants = true :: [] :=
  ⟨asked_requested _ rfl (by decide), rfl, rfl, rfl⟩

/-- Both commands. -/
theorem witness_ArgumentCommandsRun :
    (let s := asked (.setInterval 600) bad
     ((0x46#8, 0x00#8) = (0x46, 0x00)) ∧ s.Requested (.setInterval 600) [] ∧ s.cur = none ∧ s.busOwned = false ∧
       s.grants = true :: []) ∧
    (let s := asked (.calibrate 400) bad
     ((0x52#8, 0x04#8) = (0x52, 0x04)) ∧ s.Requested (.calibrate 400) [] ∧ s.cur = none ∧ s.busOwned = false ∧
       s.grants = true :: []) :=
  ⟨⟨rfl, asked_requested _ rfl (by decide), rfl, rfl, rfl⟩, rfl, asked_requested _ rfl (by decide), rfl, rfl, rfl⟩

theorem witness_ReadMeasurementsRuns :
    let s := asked .readMeasurements (good response)
    s.Requested .readMeasurements [] ∧ s.grants = true :: [] ∧ s.answer.completed = true ∧
      ∀ k, k < 18 → s.answer.rxdata[k]? = some (response.getD k 0) :=
  ⟨asked_requested _ rfl (by decide), rfl, rfl, fun k hk => by
    simp only [List.getD_eq_getElem?_getD]
    have : k < response.length := hk
    show response[k]? = _
    simp [this]⟩

theorem witness_FailedReadMeasurementsRuns :
    let s := asked .readMeasurements bad
    s.Requested .readMeasurements [] ∧ s.grants = true :: [] ∧ s.answer.completed = false :=
  ⟨asked_requested _ rfl (by decide), rfl, rfl⟩

theorem witness_WriteCommandsArePrimitiveCompositions :
    let s : State := { State.reset with grants := [true] }
    s.inputs = [] ∧ s.seq = .idle ∧ s.cur = none ∧ s.busOwned = false ∧ s.grants = true :: [] :=
  ⟨rfl, rfl, rfl, rfl, rfl⟩

theorem witness_ReadCommandIsPrimitiveComposition :
    ∀ a ∈ [good response, bad],
      let s : State := { State.reset with grants := [true], transfers := [a] }
      s.inputs = [] ∧ s.seq = .idle ∧ s.cur = none ∧ s.busOwned = false ∧ s.grants = true :: [] ∧ s.answer = a ∧
        (good response).completed = true ∧ bad.completed = false := by
  intro a ha
  fin_cases ha <;> exact ⟨rfl, rfl, rfl, rfl, rfl, rfl, rfl, rfl⟩

/-- A next state of each raw operation. -/
theorem witness_RawTransportFrame :
    (∃ t, exec (.busWrite [0x00, 0x10]) State.reset = .next t) ∧
    (∃ t, exec (.busWriteThenRead [3, 0] 18) State.reset = .next t) := ⟨⟨_, rfl⟩, _, rfl⟩

theorem witness_WriteCommandFrame :
    ∀ i ∈ [Instr.startMeasurement, .setInterval 600, .calibrate 400],
      (i = .startMeasurement ∨ (∃ a, i = .setInterval a) ∨ (∃ a, i = .calibrate a)) ∧
      ∃ t, exec i State.reset = .next t := by
  intro i hi
  rcases hi with _ | ⟨_, _ | ⟨_, _ | ⟨_, hi⟩⟩⟩
  · exact ⟨.inl rfl, _, rfl⟩
  · exact ⟨.inr (.inl ⟨_, rfl⟩), _, rfl⟩
  · exact ⟨.inr (.inr ⟨_, rfl⟩), _, rfl⟩
  · cases hi

theorem witness_ReadCommandFrame :
    (doing .readMeasurements .encode).Inv ∧ ∃ t, exec .readMeasurements (doing .readMeasurements .encode) = .next t :=
  ⟨doing_inv rfl rfl, _, rfl⟩

theorem witness_WireFramesGoOut : (doing .startMeasurement .transfer).seq = .transfer ∧ State.reset.seq ≠ .transfer :=
  ⟨rfl, by decide⟩

theorem witness_StepRunsPresentedRequest :
    let s := asked (.setInterval 600) bad
    s.inputs = [] ∧ s.seq = .idle ∧ s.requests = ⟨0b101#3, { Ports.least with arg := 600 }⟩ :: [] ∧
      decode (.request ⟨0b101#3, { Ports.least with arg := 600 }⟩) = .ok (.setInterval 600) := ⟨rfl, rfl, rfl, rfl⟩

theorem witness_StepRunsFrameOrOperation :
    (let s := doing .startMeasurement .transfer
     s.inputs = [] ∧ s.seq = .transfer ∧ decode (.frame s.txBytes) = .ok .wireStartMeasurement) ∧
    (let s := doing .startMeasurement .release
     s.inputs = [] ∧ s.cur = some .startMeasurement ∧ s.seq ≠ .idle ∧ s.seq ≠ .transfer) :=
  ⟨⟨rfl, rfl, rfl⟩, rfl, rfl, by decide, by decide⟩

/-- A raw write whose bytes are no command frame. -/
theorem witness_TransferInspectsNothing :
    let i : Instr := .busWrite [0xAB]
    (doing i .transfer).Inv ∧ (doing i .transfer).inputs = [] ∧ (doing i .transfer).cur = some i ∧
      (doing i .transfer).seq = .transfer := ⟨doing_inv rfl rfl, rfl, rfl, rfl⟩

theorem witness_BusyBlockHoldsRequests :
    let s := doing .startMeasurement .acquire
    s.Inv ∧ s.seq ≠ .idle ∧ (∃ t, step s = .next t) ∧ s.cur ≠ some (decodeRequest ⟨0b111#3, Ports.least⟩) :=
  ⟨doing_inv rfl rfl, by decide, ⟨_, rfl⟩, by simp [doing, decodeRequest]⟩

/-- A reset in `TRANSFER`, and one in `ACQUIRE`. -/
theorem witness_ResetEventFromAnyState :
    let s : State := { doing .startMeasurement .transfer with inputs := [.reset] }
    let u : State := { doing .startMeasurement .acquire with inputs := [.reset] }
    (s.inputs = .reset :: [] ∧ s.seq = .transfer) ∧ (u.inputs = .reset :: [] ∧ u.seq ≠ .transfer) :=
  ⟨⟨rfl, rfl⟩, rfl, by decide⟩

theorem witness_StepKeepsBlockInvariant :
    let s := doing (.calibrate 400) .encode
    s.Inv ∧ ∃ t, step s = .next t := ⟨doing_inv rfl rfl, _, rfl⟩

theorem witness_NoStepFaults : (doing (.calibrate 400) .encode).Inv := doing_inv rfl rfl

/-- A step that leaves `ACQUIRE`, and one that reaches `DECODE`. -/
theorem witness_SequencerFollowsArrows :
    ((doing .readMeasurements .acquire).Inv ∧
      see (step { doing .readMeasurements .acquire with grants := [true] }) State.seq = some .transfer) ∧
    ((doing .readMeasurements .release).Inv ∧
      see (step { doing .readMeasurements .release with xfer := { completed := true, rxdata := response } }) State.seq =
        some .decode) :=
  ⟨⟨doing_inv rfl rfl, by decide +kernel⟩, doing_inv rfl rfl, by decide +kernel⟩

theorem witness_FaultIsSticky :
    let s : State := { State.reset with fault := true, requests := requestFor (.crc8 []) }
    s.fault = true ∧ ∃ t, step s = .next t := ⟨rfl, _, rfl⟩

theorem witness_OnlyDecodeFloatRaisesFault :
    let s := loaded (List.replicate 18 0) (requestFor (.decodeFloat 15))
    s.Inv ∧ s.fault = false ∧ see (step s) State.fault = some true :=
  ⟨loaded_inv _, rfl, by decide +kernel⟩

/-- A transfer that completes, and one that does not. -/
theorem witness_BusCarriesOnlyOwnedTransfers :
    (doing .startMeasurement .transfer).Inv ∧
    (∃ t, step { doing .startMeasurement .transfer with transfers := [good []] } = .next t) ∧
    ∃ t, step { doing .startMeasurement .transfer with transfers := [bad] } = .next t :=
  ⟨doing_inv rfl rfl, ⟨_, rfl⟩, _, rfl⟩

theorem witness_NoGrantNoProgress :
    let s := doing .startMeasurement .acquire
    s.Inv ∧ s.inputs = [] ∧ s.seq = .acquire ∧ s.grants = [] := ⟨doing_inv rfl rfl, rfl, rfl, rfl⟩

/-- A granted block in `ENCODE`; a block in `DECODE` needs no grant. -/
theorem witness_GrantedOperationEnds :
    (let s := doing .readMeasurements .decode
     s.Inv ∧ s.inputs = [] ∧ s.seq ≠ .idle ∧ ¬ (s.seq = .encode ∨ s.seq = .acquire)) ∧
    (doing .startMeasurement .encode).Inv ∧
    ∃ g, ({ doing .startMeasurement .encode with grants := [true] } : State).grants = true :: g :=
  ⟨⟨doing_inv rfl rfl, rfl, by decide, by decide⟩, doing_inv rfl rfl, _, rfl⟩

theorem witness_StepKeepsHostInvariant :
    (withWorker (looping .publish)).HostInv ∧ ∃ t, step (withWorker (looping .publish)) = .next t :=
  ⟨fun w h => by cases h; exact looping_inv _ (by decide), _, rfl⟩

theorem witness_HasUnreadNeverCleared :
    let w : Worker := { looping .top with hasUnread := true }
    (withWorker w).worker = some w ∧ w.hasUnread = true ∧ ∃ t, step (withWorker w) = .next t := ⟨rfl, rfl, _, rfl⟩

/-- A worker at any place of its loop thread, the block idle and nothing requested: the hypotheses of the two statements
about the order of its moves. -/
theorem witness_WorkerStartsUpInOrder (pos : WorkerPos) :
    let s := withWorker (looping pos)
    s.inputs = [] ∧ s.seq = .idle ∧ s.requests = [] ∧ s.worker = some (looping pos) ∧ (looping pos).pos = pos :=
  ⟨rfl, rfl, rfl, rfl, rfl⟩

/-- The clauses that ask for more than a place: a thread told to stop, a Sample to publish and one to discard, a request
pending, and none. -/
theorem witness_WorkerLoopInOrder :
    (looping .top).running = true ∧ ({ looping .top with running := false } : Worker).running = false ∧
    (let x : Sample := { Sample.placeholder with valid := true, co2 := 0x43CE4000 }
     x.valid = true ∧ Binary32.gtZero x.co2 = true) ∧
    (let x : Sample := { Sample.placeholder with valid := true, co2 := 0 }
     ¬ (x.valid = true ∧ Binary32.gtZero x.co2 = true)) ∧
    (looping .calibrate).pendingCalibration = 0 ∧
    ({ looping .calibrate with pendingCalibration := 400 } : Worker).pendingCalibration ≠ 0 ∧
    (looping .clearPending).lateRequest = false := by decide +kernel

theorem witness_StoppedWorkerIsSilent :
    let w : Worker := { looping .stopped with running := false }
    let s := withWorker w
    s.inputs = [] ∧ s.seq = .idle ∧ s.requests = [] ∧ s.worker = some w ∧ w.pos = .stopped :=
  ⟨rfl, rfl, rfl, rfl, rfl⟩

theorem witness_ConsumerNeverTouchesBlock : ∃ t, State.reset.consumerCall (.construct 5000) = .next t := ⟨_, rfl⟩

/-- A worker for each clause: running, started and stopped, never started; a call that waits, one that does not, and a
calibration request that passes; a step without a call. -/
theorem witness_ConsumerCalls :
    (∃ t, (withWorker (looping .top)).consumerCall (.requestCalibration 400) = .next t) ∧
    (withWorker (looping .top)).worker = some (looping .top) ∧ (looping .top).running = true ∧
    (looping .top).started = true ∧ (looping .top).stopWaiting = false ∧
    (let w : Worker := { looping .stopped with running := false }
     w.running = false ∧ w.started = true) ∧
    (newWorker 5000).started = false ∧
    (∀ c ∈ [ConsumerCall.takeSample, .requestCalibration 400],
      let w : Worker := { looping .sendRead with running := false, stopWaiting := true }
      let s : State := { withWorker w with inputs := [.call c] }
      s.worker = some w ∧ s.inputs = .call c :: [] ∧ w.stopWaiting = true ∧ ∃ t, step s = .next t) ∧
    (∀ p, ConsumerCall.takeSample ≠ .requestCalibration p) ∧
    (withWorker (looping .top)).inputs = [] ∧ ∃ t, step (withWorker (looping .top)) = .next t := by
  refine ⟨⟨_, rfl⟩, rfl, rfl, rfl, rfl, ⟨rfl, rfl⟩, rfl, ?_, by simp, rfl, _, rfl⟩
  intro c hc
  fin_cases hc <;> exact ⟨rfl, rfl, rfl, _, rfl⟩

/-- Both sides of the forwarding: published with an empty log, published with another timestamp, published and logged
already, and the placeholder before a log that ends with its own timestamp. -/
theorem witness_ConsumerCalls_log :
    (publishedWorker.hasUnread = true ∧ ∀ r, State.reset.consumer.log.getLast? = some r →
      r.timestamp ≠ publishedWorker.latestSample.timestamp) ∧
    (let w : Worker := { publishedWorker with latestSample := { measured with timestamp := "later" } }
     ∀ r, logged.log.getLast? = some r → r.timestamp ≠ w.latestSample.timestamp) ∧
    (¬ ∀ r, logged.log.getLast? = some r → r.timestamp ≠ publishedWorker.latestSample.timestamp) ∧
    ¬ ∀ r, ({ logged with log := [logRecord Sample.placeholder] } : Consumer).log.getLast? = some r →
      r.timestamp ≠ (looping .top).latestSample.timestamp := by
  refine ⟨⟨rfl, by simp [State.reset, State.atReset]⟩, ?_, ?_, ?_⟩
  · simp [logged, logRecord, measured]
  · simp [logged, logRecord, publishedWorker]
  · simp [logRecord, looping, newWorker]

/-- The least and the largest interval, and the two kinds that are refused. -/
theorem witness_WorkerConstruction :
    State.reset.worker = none ∧ (0 < 1 ∧ 1 / 1000 ≤ 65535) ∧ (0 < 65535999 ∧ 65535999 / 1000 ≤ 65535) ∧
    65535 < 65536000 / 1000 := by decide

/-- Traffic during an operation, and on an idle block. -/
theorem witness_ForeignTrafficOnBusHandle :
    (let s : State := { doing .startMeasurement .acquire with inputs := [.foreignTraffic] }
     s.inputs = .foreignTraffic :: [] ∧ s.seq ≠ .idle) ∧
    (let s : State := { State.reset with inputs := [.foreignTraffic] }
     s.inputs = .foreignTraffic :: [] ∧ s.seq = .idle) := ⟨⟨rfl, by decide⟩, rfl, rfl⟩

end Sys2Proof.Tests
end

section
/-! The frame encoder in `ENCODE` (spec/43_sensor_commands.md R120, R121): what the four commands run there, and the whole
state each of the two encoders leaves. -/

namespace Sys2Proof.Machine

variable {s : State} {i : Instr}

/-- In `ENCODE` a command without an argument runs the format N encoder and goes on to wait for the bus. -/
theorem exec_encode_plain (h : i = .startMeasurement ∨ i = .readMeasurements) (hc : s.cur = some i)
    (hq : s.seq = .encode) : exec i s = .next (s.encodeN.goto .acquire) := by
  obtain rfl | rfl := h
  · simp only [exec, execStartMeasurement, serve_current _ hc, hq]
  · simp only [exec, execReadMeasurements, serve_current _ hc, hq]

/-- In `ENCODE` a command with an argument runs the format A encoder and goes on to wait for the bus; the argument is
taken from its latch, not from the request. -/
theorem exec_encode_arg (h : (∃ a, i = .setInterval a) ∨ (∃ a, i = .calibrate a)) (hc : s.cur = some i)
    (hq : s.seq = .encode) : exec i s = .next (s.encodeA.goto .acquire) := by
  obtain ⟨a, rfl⟩ | ⟨a, rfl⟩ := h
  · simp only [exec, execSetInterval, serve_current _ hc, hq]
  · simp only [exec, execCalibrate, serve_current _ hc, hq]

/-- A format N frame in a buffer: the command code at addresses 0 and 1, high byte first. -/
theorem write_frameN (m : Memory) (code : Half) :
    m.write 0 (frameN code) = (m.set 0 (code.extractLsb' 8 8)).set 1 (code.extractLsb' 0 8) := rfl

/-- A format A frame in a buffer: command code, argument and CRC byte at addresses 0 to 4. -/
theorem write_frameA (m : Memory) (code arg : Half) (c : Byte) :
    m.write 0 (frameA code arg c) =
      ((((m.set 0 (code.extractLsb' 8 8)).set 1 (code.extractLsb' 0 8)).set 2 (arg.extractLsb' 8 8)).set 3
        (arg.extractLsb' 0 8)).set 4 c := rfl

/-- The CRC byte is the checksum of the two argument bytes alone, high byte first. -/
theorem argCrc_eq (arg : Half) : argCrc arg = crc8 [arg.extractLsb' 8 8, arg.extractLsb' 0 8] := rfl

/-- The format N encoder writes `TX` and `tx_len` only. -/
theorem encodeN_eq : s.encodeN = { s with tx := s.tx.write 0 (frameN s.cmd), txLen := 2 } := rfl

/-- The format A encoder writes `TX`, `tx_len` and `crc` only. -/
theorem encodeA_eq : s.encodeA =
    { s with tx := s.tx.write 0 (frameA s.cmd s.arg (argCrc s.arg)), crc := argCrc s.arg, txLen := 5 } := rfl

/-- Settles O20: in `ENCODE` both commands without an argument run the format N encoder, whose whole next state is
known. -/
theorem formatNFrameBuilt : Obligations.FormatNFrameBuilt := by
  intro i s hi hc hq
  rw [exec_encode_plain hi hc hq, encodeN_eq, write_frameN, State.goto]

/-- Settles O21: in `ENCODE` both commands with an argument run the format A encoder, whose whole next state is known. -/
theorem formatAFrameBuilt : Obligations.FormatAFrameBuilt := by
  intro i s hi hc hq
  rw [exec_encode_arg hi hc hq, encodeA_eq, write_frameA, argCrc_eq, State.goto]

end Sys2Proof.Machine
end

section
/-! The encodings (spec/30_encoding.md sections 2 to 4): what a decoded frame says of its bytes, and which byte
sequences are frames. -/

namespace Sys2Proof.Machine

/-- Settles O1: one lemma of `Laws.RoundTrip` per constructor. -/
theorem encodeThenDecode : Obligations.EncodeThenDecode := by
  intro i
  cases i with
  | crc8 data => exact Laws.RoundTrip.crc8 data
  | decodeFloat off => exact Laws.RoundTrip.decodeFloat off
  | busWrite data => exact Laws.RoundTrip.busWrite data
  | busWriteThenRead data n => exact Laws.RoundTrip.busWriteThenRead data n
  | startMeasurement => exact Laws.RoundTrip.startMeasurement
  | setInterval arg => exact Laws.RoundTrip.setInterval arg
  | calibrate arg => exact Laws.RoundTrip.calibrate arg
  | readMeasurements => exact Laws.RoundTrip.readMeasurements
  | wireStartMeasurement => exact Laws.RoundTrip.wireStartMeasurement
  | wireReadMeasurements => exact Laws.RoundTrip.wireReadMeasurements
  | wireSetInterval arg crc => exact Laws.RoundTrip.wireSetInterval arg crc
  | wireCalibrate arg crc => exact Laws.RoundTrip.wireCalibrate arg crc

@[simp] theorem hiByte_joinBytes (hi lo : Byte) : hiByte (joinBytes hi lo) = hi :=
  BitVec.extractLsb'_append_eq_left

@[simp] theorem loByte_joinBytes (hi lo : Byte) : loByte (joinBytes hi lo) = lo :=
  BitVec.extractLsb'_append_eq_right

/-- The two bytes of a command code are its format N frame. -/
theorem frameN_joinBytes (c1 c0 : Byte) : frameN (joinBytes c1 c0) = [c1, c0] := by simp [frameN]

/-- The five bytes of a format A frame, from the code and the argument its bytes join to. -/
theorem frameA_joinBytes (c1 c0 a1 a0 c : Byte) :
    frameA (joinBytes c1 c0) (joinBytes a1 a0) c = [c1, c0, a1, a0, c] := by simp [frameA]

/-- A byte sequence that is a frame is the encoding of that frame: both formats write a 16-bit value as the bytes that
join to it. -/
theorem encode_of_decodeFrame {bytes : List Byte} {i : Instr} (h : decodeFrame bytes = .ok i) :
    encode i = .frame bytes := by
  unfold decodeFrame at h
  split at h
  case h_3 c1 c0 =>
    split at h
    · next hc => cases h; rw [encode, ← hc, frameN_joinBytes]
    · split at h
      · next hc => cases h; rw [encode, ← hc, frameN_joinBytes]
      · cases h
  case h_4 c1 c0 a1 a0 c =>
    split at h
    · next hc => cases h; rw [encode, ← hc, frameA_joinBytes]
    · split at h
      · next hc => cases h; rw [encode, ← hc, frameA_joinBytes]
      · cases h
  all_goals cases h

/-- Settles O2. -/
theorem decodedFrameReencodes : Obligations.DecodedFrameReencodes := fun _ _ h => encode_of_decodeFrame h

/-- A command code fixes a length of 2 or 5, or none at all. -/
theorem frameLength_cases (code : Half) :
    frameLength code = some 2 ∨ frameLength code = some 5 ∨ frameLength code = none := by
  unfold frameLength
  split
  · exact .inl rfl
  · split
    · exact .inr (.inl rfl)
    · exact .inr (.inr rfl)

/-- A sequence of at least two bytes is a frame if it has the length its command code fixes, and else is rejected with
the error of that code (R68). -/
theorem decodeFrame_cases (c1 c0 : Byte) (rest : List Byte) :
    ((∃ i, decodeFrame (c1 :: c0 :: rest) = .ok i) ∧ frameLength (joinBytes c1 c0) = some (rest.length + 2)) ∨
    (decodeFrame (c1 :: c0 :: rest) = .error (frameError (joinBytes c1 c0)) ∧
      frameLength (joinBytes c1 c0) ≠ some (rest.length + 2)) := by
  have other (n : Nat) (h2 : n ≠ 2) (h5 : n ≠ 5) : frameLength (joinBytes c1 c0) ≠ some n := by
    obtain h | h | h := frameLength_cases (joinBytes c1 c0) <;> simp [h, h2.symm, h5.symm]
  match rest with
  | [] =>
    simp only [decodeFrame]
    split
    · next h => exact .inl ⟨⟨_, rfl⟩, by rw [h]; rfl⟩
    · split
      · next h => exact .inl ⟨⟨_, rfl⟩, by rw [h]; rfl⟩
      · next h h' => exact .inr ⟨rfl, by simp only [frameLength, h, h']; split <;> simp_all⟩
  | [a1, a0, c] =>
    simp only [decodeFrame]
    split
    · next h => exact .inl ⟨⟨_, rfl⟩, by rw [h]; rfl⟩
    · split
      · next h => exact .inl ⟨⟨_, rfl⟩, by rw [h]; rfl⟩
      · next h h' => exact .inr ⟨rfl, by simp only [frameLength, h, h']; split <;> simp_all⟩
  | [_] => exact .inr ⟨rfl, other 3 (by decide) (by decide)⟩
  | [_, _] => exact .inr ⟨rfl, other 4 (by decide) (by decide)⟩
  | _ :: _ :: _ :: _ :: l => exact .inr ⟨rfl, other _ (by simp) (by simp)⟩

/-- A sequence of at least two bytes is a frame exactly if it has the length of its command code. -/
theorem decodeFrame_ok_iff (c1 c0 : Byte) (rest : List Byte) :
    (∃ i, decodeFrame (c1 :: c0 :: rest) = .ok i) ↔ frameLength (joinBytes c1 c0) = some (rest.length + 2) := by
  obtain ⟨h, hl⟩ | ⟨h, hl⟩ := decodeFrame_cases c1 c0 rest
  · exact iff_of_true h hl
  · exact iff_of_false (by simp [h]) hl

/-- Settles O3: the four codes have the lengths of R68, and a code without a length is an unknown one. -/
theorem commandCodeFixesFrameLength : Obligations.CommandCodeFixesFrameLength := by
  intro c1 c0 rest
  have length_iff {n : Nat} (h : frameLength (joinBytes c1 c0) = some (n + 2)) :
      (∃ i, decode (.frame (c1 :: c0 :: rest)) = .ok i) ↔ rest.length = n := by
    refine (decodeFrame_ok_iff c1 c0 rest).trans ?_
    rw [h, Option.some_inj, Nat.add_right_cancel_iff, eq_comm]
  refine ⟨fun h => length_iff ?_, fun h => length_iff ?_, fun h1 h2 h3 h4 => ?_⟩
  · obtain h | h := h <;> exact congrArg frameLength h
  · obtain h | h := h <;> exact congrArg frameLength h
  · have hn : frameLength (joinBytes c1 c0) = none := by
      simp [frameLength, joinBytes, Config.params, h1, h2, h3, h4]
    obtain ⟨-, hl⟩ | ⟨h, -⟩ := decodeFrame_cases c1 c0 rest
    · simp [hn] at hl
    · simp [decode, h, frameError, hn]

/-- A CRC byte ends its arguments in a checksum of 0 exactly if it is their checksum (R87). -/
theorem crc8_append_eq_zero_iff (s : List Byte) (c : Byte) : crc8 (s ++ [c]) = 0 ↔ c = crc8 s := by
  rw [crc8_append_byte]
  exact ⟨crcByte_eq_zero, fun h => h ▸ crcByte_self _⟩

/-- Settles O4. -/
theorem frameCrcByteChecks : Obligations.FrameCrcByteChecks := by
  intro arg c
  have checked : (c == argCrc arg) = true ↔ c = crc8 [hiByte arg, loByte arg] := beq_iff_eq
  exact ⟨checked, checked, (crc8_append_eq_zero_iff [hiByte arg, loByte arg] c).symm⟩

section
variable (p : Ports)

@[simp] theorem decodeRequest_crc8 : decodeRequest ⟨0b000#3, p⟩ = .crc8 p.data := by simp [decodeRequest]
@[simp] theorem decodeRequest_decodeFloat : decodeRequest ⟨0b001#3, p⟩ = .decodeFloat p.off := by simp [decodeRequest]
@[simp] theorem decodeRequest_busWrite : decodeRequest ⟨0b010#3, p⟩ = .busWrite p.data := by simp [decodeRequest]
@[simp] theorem decodeRequest_busWriteThenRead :
    decodeRequest ⟨0b011#3, p⟩ = .busWriteThenRead p.data p.readLen := by simp [decodeRequest]
@[simp] theorem decodeRequest_startMeasurement : decodeRequest ⟨0b100#3, p⟩ = .startMeasurement := by
  simp [decodeRequest]
@[simp] theorem decodeRequest_setInterval : decodeRequest ⟨0b101#3, p⟩ = .setInterval p.arg := by simp [decodeRequest]
@[simp] theorem decodeRequest_calibrate : decodeRequest ⟨0b110#3, p⟩ = .calibrate p.arg := by simp [decodeRequest]
@[simp] theorem decodeRequest_readMeasurements : decodeRequest ⟨0b111#3, p⟩ = .readMeasurements := by
  simp [decodeRequest]

end

/-- Settles O5: the eight codes by the lemmas above, the four frames by evaluation. -/
theorem writtenOutWordsDecode : Obligations.WrittenOutWordsDecode :=
  ⟨fun p => by simp [decode], rfl, rfl, rfl, rfl⟩

/-- A request selects one of the eight operations, never a frame (R61, R63). -/
theorem encode_decodeRequest_ne_frame (r : Request) (bytes : List Byte) : encode (decodeRequest r) ≠ .frame bytes := by
  unfold decodeRequest
  split <;> simp [encode]

end Sys2Proof.Machine
end

section
/-! The CRC-8 generator (spec/40_crc8.md section 3) and the float codec (spec/41_float_codec.md section 2, and the
host's comparison of spec/45_host_polling_worker.md R149) as pure functions. -/

namespace Sys2Proof.Machine

/-! ## CRC-8 -/

/-- Eight rounds are the byte-parallel form, for each of the 256 accumulators (R85). -/
theorem crcRounds_eight (x : Byte) : crcRounds 8 x = crcParallel x := by
  revert x
  decide +kernel

/-- One round as a shift and a sum. -/
theorem crcRound_eq (a : Byte) :
    crcRound a = (a <<< 1) ^^^ if a.getLsbD 7 then Config.params.crcPoly else 0 := by
  unfold crcRound
  split <;> simp

/-- One round is linear: the polynomial is added once for each operand whose top bit is set, and twice is not at all. -/
theorem crcRound_xor (x y : Byte) : crcRound (x ^^^ y) = crcRound x ^^^ crcRound y := by
  have poly : (if (x ^^^ y).getLsbD 7 then Config.params.crcPoly else 0) =
      (if x.getLsbD 7 then Config.params.crcPoly else 0) ^^^ if y.getLsbD 7 then Config.params.crcPoly else 0 := by
    rw [BitVec.getLsbD_xor]
    cases x.getLsbD 7 <;> cases y.getLsbD 7 <;> rfl
  rw [crcRound_eq, crcRound_eq x, crcRound_eq y, poly, BitVec.shiftLeft_xor_distrib]
  ac_rfl

/-- So are any number of rounds. -/
theorem crcRounds_xor (n : Nat) (x y : Byte) : crcRounds n (x ^^^ y) = crcRounds n x ^^^ crcRounds n y := by
  induction n generalizing x y with
  | zero => rfl
  | succ n ih => rw [crcRounds, crcRound_xor, ih, crcRounds, crcRounds]

/-- Settles O6. -/
theorem crcByteParallelForm : Obligations.CrcByteParallelForm :=
  ⟨fun a b => crcRounds_eight (a ^^^ b), crcRounds_xor 8⟩

/-- Settles O7. -/
theorem crcOfCheckedSequenceIsZero : Obligations.CrcOfCheckedSequenceIsZero :=
  fun s => (crc8_append_eq_zero_iff s (crc8 s)).2 rfl

/-! ## The float codec -/

/-- The four bytes of an assembled pattern, lowest address first. -/
theorem encodeFloat_assembleFloat (b0 b1 b2 b3 : Byte) :
    encodeFloat (assembleFloat b0 b1 b2 b3) = [b0, b1, b2, b3] := by
  have h0 : (assembleFloat b0 b1 b2 b3).extractLsb' 0 8 = b0 := BitVec.extractLsb'_append_eq_right
  have h1 : (assembleFloat b0 b1 b2 b3).extractLsb' 8 8 = b1 :=
    (BitVec.extractLsb'_append_eq_of_le (by decide)).trans BitVec.extractLsb'_append_eq_right
  have h2 : (assembleFloat b0 b1 b2 b3).extractLsb' 16 8 = b2 :=
    (BitVec.extractLsb'_append_eq_of_le (by decide)).trans
      ((BitVec.extractLsb'_append_eq_of_le (by decide)).trans BitVec.extractLsb'_append_eq_right)
  have h3 : (assembleFloat b0 b1 b2 b3).extractLsb' 24 8 = b3 :=
    (BitVec.extractLsb'_append_eq_of_le (by decide)).trans
      ((BitVec.extractLsb'_append_eq_of_le (by decide)).trans BitVec.extractLsb'_append_eq_left)
  simp only [encodeFloat, h0, h1, h2, h3]

/-- A pattern is assembled from its own four bytes. -/
theorem assembleFloat_extract (v : Word32) :
    assembleFloat (v.extractLsb' 0 8) (v.extractLsb' 8 8) (v.extractLsb' 16 8) (v.extractLsb' 24 8) = v := by
  rw [assembleFloat, BitVec.extractLsb'_append_extractLsb'_eq_extractLsb' (show 24 = 16 + 8 from rfl),
    BitVec.extractLsb'_append_extractLsb'_eq_extractLsb' (show 16 = 8 + 8 from rfl),
    BitVec.extractLsb'_append_extractLsb'_eq_extractLsb' (show 8 = 0 + 8 from rfl)]
  exact BitVec.extractLsb'_eq_self

/-- Settles O9. -/
theorem floatDecodeInvertsLayout : Obligations.FloatDecodeInvertsLayout :=
  fun v => ⟨rfl, congrArg some (assembleFloat_extract v)⟩

/-- Settles O10: the four bytes are read back from the pattern, and every pattern is assembled from its own. -/
theorem floatDecodeIsBijective : Obligations.FloatDecodeIsBijective := by
  refine ⟨fun a0 a1 a2 a3 b0 b1 b2 b3 h => ?_, fun v => ⟨_, _, _, _, assembleFloat_extract v⟩⟩
  have hb : [a0, a1, a2, a3] = [b0, b1, b2, b3] := by
    rw [← encodeFloat_assembleFloat, h, encodeFloat_assembleFloat]
  simpa using hb

/-! ## The comparison with 0 -/

/-- A pattern of exponent 255 is no number: it is above 0 if it is positive infinity. -/
theorem gtZero_of_exponent_max {v : Word32} (h : Binary32.exponent v = 255) :
    Binary32.gtZero v = true ↔ Binary32.isInf v = true ∧ Binary32.sign v = false := by
  simp [Binary32.gtZero, Binary32.isNaN, Binary32.isInf, h, and_comm]

/-- The number of a finite pattern: its magnitude with its sign. -/
def Binary32.magnitude (v : Word32) : Rat :=
  if Binary32.exponent v = 0 then (Binary32.fraction v : Rat) / 2 ^ 149
  else (2 ^ 23 + Binary32.fraction v : Rat) * 2 ^ Binary32.exponent v / 2 ^ 150

theorem Binary32.value_of_finite {v : Word32} (h : Binary32.exponent v ≠ 255) :
    Binary32.value v = some (if Binary32.sign v then -Binary32.magnitude v else Binary32.magnitude v) := by
  simp only [Binary32.value, if_neg h, Binary32.magnitude]

/-- A magnitude is above 0 unless exponent and fraction are both 0. -/
theorem Binary32.magnitude_pos_iff (v : Word32) :
    0 < Binary32.magnitude v ↔ Binary32.exponent v ≠ 0 ∨ Binary32.fraction v ≠ 0 := by
  unfold Binary32.magnitude
  split
  · next h => simp [h, Nat.pos_iff_ne_zero]
  · next h => exact iff_of_true (by positivity) (.inl h)

theorem Binary32.magnitude_nonneg (v : Word32) : 0 ≤ Binary32.magnitude v := by
  unfold Binary32.magnitude
  split <;> positivity

/-- A finite pattern passes the test exactly if its number is above 0. -/
theorem gtZero_of_finite {v : Word32} (h : Binary32.exponent v ≠ 255) :
    Binary32.gtZero v = true ↔ ∃ q : Rat, Binary32.value v = some q ∧ 0 < q := by
  have hm := Binary32.magnitude_nonneg v
  rw [Binary32.value_of_finite h]
  cases hs : Binary32.sign v with
  | true => simpa [Binary32.gtZero, hs] using hm
  | false => simp [Binary32.gtZero, Binary32.isNaN, hs, h, Binary32.magnitude_pos_iff]

/-- Settles O51: infinities and NaNs have no number, and only the finite patterns have one. -/
theorem publicationTestIsNumeric : Obligations.PublicationTestIsNumeric := by
  intro v
  by_cases h : Binary32.exponent v = 255
  · rw [gtZero_of_exponent_max h]
    simp [Binary32.value, h]
  · rw [gtZero_of_finite h]
    simp [Binary32.isInf, h]

end Sys2Proof.Machine
end

section
/-! What each operation does in each of its phases, as a whole next state (spec/40_crc8.md, spec/41_float_codec.md,
spec/42_bus_transport.md, spec/43_sensor_commands.md). -/

namespace Sys2Proof.Machine

variable {s : State} {i : Instr}

/-! ## In `IDLE` -/

theorem exec_crc8 (data : List Byte) (hq : s.seq = .idle) :
    exec (.crc8 data) s = .next { s with crc := crc8 data } := by
  simp only [exec, execCrc8, serve_idle _ hq, hq]

/-- Settles O8. -/
theorem crc8WritesChecksum : Obligations.Crc8WritesChecksum :=
  ⟨fun p => congrArg Except.ok (decodeRequest_crc8 p), fun data _ hq => exec_crc8 data hq, rfl, by decide +kernel,
    by decide +kernel⟩

theorem exec_decodeFloat_some {off : BitVec 5} {bits : Word32} (hq : s.seq = .idle)
    (hd : s.decodeAt off.toNat = some bits) : exec (.decodeFloat off) s = .next { s with fRes := bits } := by
  simp only [exec, execDecodeFloat, serve_idle _ hq, hq, hd]

theorem exec_decodeFloat_none {off : BitVec 5} (hq : s.seq = .idle) (hd : s.decodeAt off.toNat = none) :
    exec (.decodeFloat off) s = .next s.raiseFault := by
  simp only [exec, execDecodeFloat, serve_idle _ hq, hq, hd]

/-- Settles O11. -/
theorem decodeFloatInBounds : Obligations.DecodeFloatInBounds :=
  fun _ _ _ _ _ _ hq hl h0 h1 h2 h3 => exec_decodeFloat_some hq (decodeAt_of_bytes hl h0 h1 h2 h3)

/-- An idle block that raises its fault stays as it is otherwise. -/
theorem raiseFault_idle (hq : s.seq = .idle) (hc : s.cur = none) : s.raiseFault = { s with fault := true } := by
  simp only [State.raiseFault, State.setFault, State.finish, ← hq, ← hc]

/-- Settles O12. -/
theorem decodeFloatOutOfBounds : Obligations.DecodeFloatOutOfBounds := by
  intro off s hq hc hl
  rw [exec_decodeFloat_none hq (decodeAt_out_of_bounds hl), raiseFault_idle hq hc]

theorem legalWriteLength_iff {data : List Byte} :
    legalWriteLength data = true ↔ 1 ≤ data.length ∧ data.length ≤ 5 := by
  rw [legalWriteLength, Bool.and_eq_true, decide_eq_true_iff, decide_eq_true_iff, params_txCap]

theorem legalReadLength_iff {n : BitVec 5} : legalReadLength n = true ↔ 1 ≤ n.toNat ∧ n.toNat ≤ 18 := by
  rw [legalReadLength, Bool.and_eq_true, decide_eq_true_iff, decide_eq_true_iff, params_rxCap]

theorem exec_busWrite_idle (data : List Byte) (hq : s.seq = .idle) : exec (.busWrite data) s =
    if legalWriteLength data then .next ((s.fillTx data).enter (.busWrite data) .acquire) else .refused .badLength := by
  simp only [exec, execBusWrite, serve_idle _ hq, hq]

theorem exec_busWriteThenRead_idle (data : List Byte) (n : BitVec 5) (hq : s.seq = .idle) :
    exec (.busWriteThenRead data n) s =
      if legalWriteLength data && legalReadLength n then
        .next ((s.fillTx data).enter (.busWriteThenRead data n) .acquire)
      else .refused .badLength := by
  simp only [exec, execBusWriteThenRead, serve_idle _ hq, hq]

/-- Settles O13. -/
theorem illegalLengthsRefused : Obligations.IllegalLengthsRefused := by
  refine ⟨fun data s hq hl => ?_, fun data n s hq hl => ?_⟩
  · rw [exec_busWrite_idle data hq, if_neg (fun h => hl (legalWriteLength_iff.1 h))]
  · rw [exec_busWriteThenRead_idle data n hq, if_neg]
    rw [Bool.and_eq_true, legalWriteLength_iff, legalReadLength_iff, and_assoc]
    exact hl

theorem exec_busWrite_accepted {data : List Byte} (hq : s.seq = .idle) (h1 : 1 ≤ data.length) (h5 : data.length ≤ 5) :
    exec (.busWrite data) s = .next ((s.fillTx data).enter (.busWrite data) .acquire) := by
  rw [exec_busWrite_idle data hq, if_pos (legalWriteLength_iff.2 ⟨h1, h5⟩)]

theorem exec_busWriteThenRead_accepted {data : List Byte} {n : BitVec 5} (hq : s.seq = .idle) (h1 : 1 ≤ data.length)
    (h5 : data.length ≤ 5) (hn1 : 1 ≤ n.toNat) (hn18 : n.toNat ≤ 18) :
    exec (.busWriteThenRead data n) s = .next ((s.fillTx data).enter (.busWriteThenRead data n) .acquire) := by
  rw [exec_busWriteThenRead_idle data n hq, if_pos]
  rw [Bool.and_eq_true, legalWriteLength_iff, legalReadLength_iff]
  exact ⟨⟨h1, h5⟩, hn1, hn18⟩

/-- Settles O14. -/
theorem rawTransportAccepted : Obligations.RawTransportAccepted :=
  ⟨fun _ _ hq h1 h5 => exec_busWrite_accepted hq h1 h5,
    fun _ _ _ hq h1 h5 hn1 hn18 => exec_busWriteThenRead_accepted hq h1 h5 hn1 hn18⟩

theorem exec_startMeasurement_idle (hq : s.seq = .idle) :
    exec .startMeasurement s = .next { s with cmd := 0x0010, cur := some .startMeasurement, seq := .encode } := by
  simp only [exec, execStartMeasurement, serve_idle _ hq, hq]
  rfl

theorem exec_setInterval_idle (a : Half) (hq : s.seq = .idle) : exec (.setInterval a) s =
    .next { s with cmd := 0x4600, arg := a, cur := some (.setInterval a), seq := .encode } := by
  simp only [exec, execSetInterval, serve_idle _ hq, hq]
  rfl

theorem exec_calibrate_idle (a : Half) (hq : s.seq = .idle) : exec (.calibrate a) s =
    .next { s with cmd := 0x5204, arg := a, cur := some (.calibrate a), seq := .encode } := by
  simp only [exec, execCalibrate, serve_idle _ hq, hq]
  rfl

theorem exec_readMeasurements_idle (hq : s.seq = .idle) :
    exec .readMeasurements s = .next { s with cmd := 0x0300, cur := some .readMeasurements, seq := .encode } := by
  simp only [exec, execReadMeasurements, serve_idle _ hq, hq]
  rfl

/-- Settles O19. -/
theorem commandLatchesOperands : Obligations.CommandLatchesOperands :=
  fun _ hq => ⟨exec_startMeasurement_idle hq, fun a => exec_setInterval_idle a hq, fun a => exec_calibrate_idle a hq,
    exec_readMeasurements_idle hq⟩

/-! ## In `ACQUIRE` and `TRANSFER` -/

theorem exec_acquire (hp : hasPhase i .acquire = true) (hc : s.cur = some i) (hq : s.seq = .acquire) :
    exec i s = .next s.acquire := by
  cases i with
  | busWrite => simp only [exec, execBusWrite, serve_current _ hc, hq]
  | busWriteThenRead => simp only [exec, execBusWriteThenRead, serve_current _ hc, hq]
  | startMeasurement => simp only [exec, execStartMeasurement, serve_current _ hc, hq]
  | setInterval => simp only [exec, execSetInterval, serve_current _ hc, hq]
  | calibrate => simp only [exec, execCalibrate, serve_current _ hc, hq]
  | readMeasurements => simp only [exec, execReadMeasurements, serve_current _ hc, hq]
  | _ => cases hp

theorem exec_transfer (hp : hasPhase i .transfer = true) (hc : s.cur = some i) (hq : s.seq = .transfer) :
    exec i s = .next (s.transmit s.txBytes) := by
  cases i with
  | busWrite => simp only [exec, execBusWrite, serve_current _ hc, hq]
  | busWriteThenRead => simp only [exec, execBusWriteThenRead, serve_current _ hc, hq]
  | startMeasurement => simp only [exec, execStartMeasurement, serve_current _ hc, hq]
  | setInterval => simp only [exec, execSetInterval, serve_current _ hc, hq]
  | calibrate => simp only [exec, execCalibrate, serve_current _ hc, hq]
  | readMeasurements => simp only [exec, execReadMeasurements, serve_current _ hc, hq]
  | _ => cases hp

theorem acquire_granted {g : List Bool} (h : s.grants = true :: g) :
    s.acquire = { s with grants := g, busOwned := true, seq := .transfer } := by
  simp only [State.acquire, h, State.setBusOwned]

theorem acquire_waiting {g : List Bool} (h : s.grants = false :: g) : s.acquire = { s with grants := g } := by
  simp only [State.acquire, h]

theorem acquire_never (h : s.grants = []) : s.acquire = s := by simp only [State.acquire, h]

/-- Settles O15. -/
theorem acquireHoldsUntilGrant : Obligations.AcquireHoldsUntilGrant := by
  intro i s hp hc hq
  rw [exec_acquire hp hc hq]
  exact ⟨fun g hg => by rw [acquire_granted hg], fun g hg => by rw [acquire_waiting hg],
    fun hg => by rw [acquire_never hg]⟩

/-- A transfer as a whole next state: what it sends is on the record, and the answer is held for `RELEASE`. -/
theorem transmit_eq (bytes : List Byte) (s : State) : s.transmit bytes = { s with
    transfers := s.transfers.tail, draws := s.draws + 1
    xfer := { completed := s.answer.completed, rxdata := s.answer.rxdata }
    busLog := s.busLog ++ [transaction bytes s.readCount s.answer], seq := .release } := rfl

/-- Settles O16. -/
theorem transferSendsTransmitBuffer : Obligations.TransferSendsTransmitBuffer := by
  intro i s hp hc hq
  rw [exec_transfer hp hc hq, transmit_eq, readCount_of_cur hc]

theorem sendFrame_waits (bytes : List Byte) (hq : s.seq ≠ .transfer) : s.sendFrame bytes = .next s := by
  unfold State.sendFrame
  split
  · contradiction
  all_goals rfl

/-- The bytes of the four frames (R67). -/
theorem frames_eq (v : Half) (c : Byte) :
    frameN Config.params.cmdStartMeasurement = [0x00, 0x10] ∧ frameN Config.params.cmdReadMeasurements = [0x03, 0x00] ∧
    frameA Config.params.cmdSetInterval v c = [0x46, 0x00, hiByte v, loByte v, c] ∧
    frameA Config.params.cmdCalibrate v c = [0x52, 0x04, hiByte v, loByte v, c] := ⟨rfl, rfl, rfl, rfl⟩

/-- Settles O35: a frame's meaning is the sending of its bytes. -/
theorem wireFramesGoOut : Obligations.WireFramesGoOut := by
  intro s v c
  obtain ⟨h1, h2, h3, h4⟩ := frames_eq v c
  refine ⟨fun hq => ?_, fun hq => ?_⟩
  · have go {i : Instr} {bytes : List Byte} (h : encode i = .frame bytes) : exec i s = .next (s.transmit bytes) := by
      rw [exec_frame h, sendFrame_transfer bytes hq]
    exact ⟨go (congrArg _ h1), go (congrArg _ h2), go (congrArg _ h3), go (congrArg _ h4)⟩
  · have wait {i : Instr} {bytes : List Byte} (h : encode i = .frame bytes) : exec i s = .next s := by
      rw [exec_frame h, sendFrame_waits bytes hq]
    exact ⟨wait rfl, wait rfl, wait rfl, wait rfl⟩

/-! ## In `RELEASE` and `DECODE` -/

theorem exec_release_write
    (h : (∃ data, i = .busWrite data) ∨ i = .startMeasurement ∨ (∃ a, i = .setInterval a) ∨ (∃ a, i = .calibrate a))
    (hc : s.cur = some i) (hq : s.seq = .release) : exec i s = .next s.release.finish := by
  obtain ⟨data, rfl⟩ | rfl | ⟨a, rfl⟩ | ⟨a, rfl⟩ := h
  · simp only [exec, execBusWrite, serve_current _ hc, hq]
  · simp only [exec, execStartMeasurement, serve_current _ hc, hq]
  · simp only [exec, execSetInterval, serve_current _ hc, hq]
  · simp only [exec, execCalibrate, serve_current _ hc, hq]

/-- Settles O17. -/
theorem writeReleaseDeliversOk : Obligations.WriteReleaseDeliversOk := fun _ _ h hc hq => exec_release_write h hc hq

theorem exec_release_rawRead {data : List Byte} {n : BitVec 5} (hc : s.cur = some (.busWriteThenRead data n))
    (hq : s.seq = .release) : exec (.busWriteThenRead data n) s = .next s.release.receive.finish := by
  simp only [exec, execBusWriteThenRead, serve_current _ hc, hq]

theorem exec_release_readDone (hc : s.cur = some .readMeasurements) (hq : s.seq = .release)
    (hx : s.xfer.completed = true) : exec .readMeasurements s = .next (s.release.receive.goto .decode) := by
  simp only [exec, execReadMeasurements, serve_current _ hc, hq, hx, if_true]

theorem exec_release_readFailed (hc : s.cur = some .readMeasurements) (hq : s.seq = .release)
    (hx : s.xfer.completed = false) : exec .readMeasurements s = .next s.release.receive.dropSample.finish := by
  simp only [exec, execReadMeasurements, serve_current _ hc, hq, hx, if_false, Bool.false_eq_true]

/-- After a completed read the received bytes stand in `RX`. -/
theorem receive_get_received {k : Nat} {b : Byte} (hx : s.xfer.completed = true) (hk : k < s.readCount) (h18 : k < 18)
    (hb : s.xfer.rxdata[k]? = some b) : s.receive.rx.get k = some b := by
  rw [receive_get, if_pos h18, if_pos ⟨hx, hk⟩, List.getD_eq_getElem?_getD, hb, Option.getD_some]

/-- After a read, completed or not, every byte of `RX` holds a value. -/
theorem receive_get_isSome {k : Nat} (h18 : k < 18) : (s.receive.rx.get k).isSome = true := by
  rw [receive_get, if_pos h18, Option.isSome_some]

/-- The length a read leaves is the one asked for. -/
theorem receive_rxLen_rawRead {data : List Byte} {n : BitVec 5} (hc : s.cur = some (.busWriteThenRead data n)) :
    s.receive.rxLen = if s.xfer.completed then n else 0 := by
  rw [receive_rxLen, readCount_of_cur hc, opReadLen, BitVec.ofNat_toNat, BitVec.setWidth_eq]

/-- Settles O18. -/
theorem rawReadReleaseFillsReceiveBuffer : Obligations.RawReadReleaseFillsReceiveBuffer := by
  intro data n s hc hq hn
  have hr : s.release.readCount = n.toNat := readCount_of_cur hc
  refine ⟨_, exec_release_rawRead hc hq, rfl, rfl, by simp, by simp, ?_, fun hx k b hk hb => ?_, fun k hk => ?_⟩
  · rw [finish_rxLen]
    exact receive_rxLen_rawRead (s := s.release) hc
  · rw [finish_rx]
    exact receive_get_received (s := s.release) hx (hr ▸ hk) (by omega) hb
  · rw [finish_rx, receive_get_isSome hk]

/-- Settles O22. -/
theorem failedReadDropsSample : Obligations.FailedReadDropsSample := by
  intro s hc hq hx
  exact ⟨_, exec_release_readFailed hc hq hx, by simp [hx]⟩

theorem exec_decode {c t h : Word32} (hc : s.cur = some .readMeasurements) (hq : s.seq = .decode)
    (hd : s.decodeSample = some (c, t, h)) : exec .readMeasurements s = .next (s.storeSample c t h).finish := by
  simp only [exec, execReadMeasurements, serve_current _ hc, hq, hd]

/-- The three floats of a whole response (R130). -/
theorem decodeSample_of_bytes {b : Nat → Byte} (hl : s.rxLen = 18) (hb : ∀ k, k < 18 → s.rx.get k = some (b k)) :
    s.decodeSample = some (b 3 ++ b 2 ++ b 1 ++ b 0, b 9 ++ b 8 ++ b 7 ++ b 6, b 15 ++ b 14 ++ b 13 ++ b 12) := by
  have at_offset {off : Nat} (h : off + 4 ≤ 18) :
      s.decodeAt off = some (b (off + 3) ++ b (off + 2) ++ b (off + 1) ++ b off) :=
    decodeAt_of_bytes (by rw [hl]; exact h) (hb _ (by omega)) (hb _ (by omega)) (hb _ (by omega)) (hb _ (by omega))
  simp only [State.decodeSample, Config.params, at_offset (off := 0) (by decide), at_offset (off := 6) (by decide),
    at_offset (off := 12) (by decide), Nat.reduceAdd]

/-- Settles O23. -/
theorem responseDecoded : Obligations.ResponseDecoded := by
  intro b s hc hq hl hb
  rw [exec_decode hc hq (decodeSample_of_bytes hl hb)]
  rfl

end Sys2Proof.Machine
end

section
/-! What an instruction leaves unchanged (spec/10_state.md section 7): one lemma per register or group of registers,
naming the instructions that may write it; the frames of the operations are read off them. -/

namespace Sys2Proof.Machine

variable {s t : State} {i : Instr}

/-- `cmd` is the latch of the command operations. -/
theorem Move.cmd_eq (h : Move i s t) (hi : commandCode i = none) : t.cmd = s.cmd := by
  cases h with
  | plainAccepted _ h => simp [hi] at h
  | argAccepted _ h => simp [hi] at h
  | _ => simp

/-- `arg` is the latch of the operations that have an argument. -/
theorem Move.arg_eq (h : Move i s t) (hi : opArg i = none) : t.arg = s.arg := by
  cases h with
  | argAccepted _ _ ha => simp [hi] at ha
  | _ => simp

/-- `crc` is written by CRC8 and by the format A encoder. -/
theorem Move.crc_eq (h : Move i s t) (h8 : ∀ data, i ≠ .crc8 data) (ha : opArg i = none) : t.crc = s.crc := by
  cases h with
  | checksum data => exact absurd rfl (h8 data)
  | builtA _ _ h => obtain ⟨a, rfl⟩ | ⟨a, rfl⟩ := h <;> cases ha
  | _ => simp

/-- `fres` is written by DECODE_FLOAT alone. -/
theorem Move.fRes_eq (h : Move i s t) (hi : ∀ off, i ≠ .decodeFloat off) : t.fRes = s.fRes := by
  cases h with
  | decoded => exact absurd rfl (hi _)
  | _ => simp

/-- The sample registers and `valid` are written by READ_MEASUREMENTS alone. -/
theorem Move.sample_eq (h : Move i s t) (hi : i ≠ .readMeasurements) :
    t.valid = s.valid ∧ t.fCo2 = s.fCo2 ∧ t.fTemp = s.fTemp ∧ t.fHum = s.fHum := by
  cases h with
  | sampled => exact absurd rfl hi
  | readFailed => exact absurd rfl hi
  | _ => simp

/-- `fault` is raised by the two operations that decode. -/
theorem Move.fault_eq (h : Move i s t) (hf : ∀ off, i ≠ .decodeFloat off) (hr : i ≠ .readMeasurements) :
    t.fault = s.fault := by
  cases h with
  | outOfBounds => exact absurd rfl (hf _)
  | sampleFault => exact absurd rfl hr
  | _ => simp

/-- `RX` and `rx_len` are written by the two operations that read. -/
theorem Move.rx_eq (h : Move i s t) (hb : ∀ data n, i ≠ .busWriteThenRead data n) (hr : i ≠ .readMeasurements) :
    t.rxLen = s.rxLen ∧ t.rx = s.rx := by
  cases h with
  | rawRead => exact absurd rfl (hb _ _)
  | readDone => exact absurd rfl hr
  | readFailed => exact absurd rfl hr
  | _ => simp

/-- A read leaves alone what is above the capacity of `RX`. -/
theorem receive_get_above {k : Nat} (hk : 18 ≤ k) : s.receive.rx.get k = s.rx.get k := by
  rw [receive_get, if_neg (by omega)]

/-- No instruction writes `RX` above its capacity. -/
theorem Move.rx_above (h : Move i s t) {k : Nat} (hk : 18 ≤ k) : t.rx.get k = s.rx.get k := by
  cases h with
  | rawRead => rw [finish_rx, receive_get_above hk, release_rx]
  | readDone => rw [goto_rx, receive_get_above hk, release_rx]
  | readFailed => rw [finish_rx, dropSample_rx, receive_get_above hk, release_rx]
  | _ => simp

/-- A write from address 0 leaves alone what is at its length and above. -/
theorem Memory.get_write_above {m : Memory} {bytes : List Byte} {k : Nat} (hk : bytes.length ≤ k) :
    (m.write 0 bytes).get k = m.get k := by
  rw [Memory.get_write, if_neg (by omega)]

/-- No instruction writes `TX` outside the bytes it transmits. -/
theorem Move.tx_above (h : Move i s t) {k : Nat} (hk : (opBytes i).length ≤ k) : t.tx.get k = s.tx.get k := by
  cases h with
  | writeAccepted =>
    rw [enter_tx, fillTx_tx]
    exact Memory.get_write_above hk
  | readAccepted =>
    rw [enter_tx, fillTx_tx]
    exact Memory.get_write_above hk
  | builtN _ _ h =>
    rw [goto_tx, encodeN_tx, Memory.get_write_above]
    obtain rfl | rfl := h <;> simpa [opBytes, frameN] using hk
  | builtA _ _ h =>
    rw [goto_tx, encodeA_tx, Memory.get_write_above]
    obtain ⟨a, rfl⟩ | ⟨a, rfl⟩ := h <;> simpa [opBytes, frameA] using hk
  | _ => simp

/-- Settles O32. -/
theorem rawTransportFrame : Obligations.RawTransportFrame := by
  refine ⟨fun data s t h => ?_, fun data n s t h => ?_⟩
  all_goals
    have hm := exec_move h
    obtain ⟨hv, hc, ht, hh⟩ := hm.sample_eq nofun
    refine ⟨hm.crc_eq nofun rfl, hm.cmd_eq rfl, hm.arg_eq rfl, hv, hm.fault_eq nofun nofun, hc, ht, hh,
      hm.fRes_eq nofun, ?_⟩
  · obtain ⟨hl, hr⟩ := hm.rx_eq nofun nofun
    exact ⟨hl, fun k => by rw [hr], fun k hk => hm.tx_above hk⟩
  · exact ⟨fun k hk => hm.rx_above hk, fun k hk => hm.tx_above hk⟩

/-- Settles O33: what is said of all three commands depends only on what they are not. -/
theorem writeCommandFrame : Obligations.WriteCommandFrame := by
  intro i s t hi h
  have hm := exec_move h
  have hne : (∀ off, i ≠ .decodeFloat off) ∧ (∀ data n, i ≠ .busWriteThenRead data n) ∧ i ≠ .readMeasurements := by
    obtain rfl | ⟨a, rfl⟩ | ⟨a, rfl⟩ := hi <;> exact ⟨nofun, nofun, nofun⟩
  obtain ⟨hd, hb, hr⟩ := hne
  obtain ⟨hv, hc, ht, hh⟩ := hm.sample_eq hr
  obtain ⟨hl, hx⟩ := hm.rx_eq hb hr
  refine ⟨hv, hm.fault_eq hd hr, hc, ht, hh, hm.fRes_eq hd, hl, fun k => by rw [hx], fun k hk => hm.tx_above hk, ?_⟩
  rintro rfl
  exact ⟨hm.crc_eq nofun rfl, hm.arg_eq rfl⟩

/-- Settles O34: under the invariant the response is whole in `DECODE`, so that its decode raises no fault. -/
theorem readCommandFrame : Obligations.ReadCommandFrame := by
  intro s t h
  have hm := exec_move h
  refine ⟨hm.fRes_eq nofun, hm.crc_eq nofun rfl, hm.arg_eq rfl, fun k hk => hm.tx_above hk,
    fun k hk => hm.rx_above hk, fun hinv => ?_⟩
  cases hm with
  | sampleFault hq _ hd => exact absurd hd (hinv.decodeSample_ne_none hq)
  | _ => simp

/-- `fault` is cleared by no instruction. -/
theorem Move.fault_sticky (h : Move i s t) (hf : s.fault = true) : t.fault = true := by
  cases h with
  | outOfBounds => rfl
  | sampleFault => rfl
  | _ => simpa using hf

/-- The worker and the request interface are touched by no instruction. -/
theorem Move.outside_eq (h : Move i s t) : t.worker = s.worker ∧ t.requests = s.requests := by
  cases h <;> simp

end Sys2Proof.Machine
end

section
/-! One step of the block as a case analysis (spec/30_encoding.md section 2, spec/70_reset_and_hazards.md sections 1,
3): what a request does in `IDLE`, what the operation in progress does elsewhere, and what else can happen at a step. -/

namespace Sys2Proof.Machine

variable {s t : State} {i : Instr}

/-! ## Single steps -/

/-- In `IDLE` a quiet step runs the request presented. -/
theorem step_request {r : Request} {rest : List Request} (hi : s.inputs = []) (hq : s.seq = .idle)
    (hr : s.requests = r :: rest) : step s = exec (decodeRequest r) { s with requests := rest } := by
  rw [step_quiet hi]
  simp only [State.advance, hq, State.runRequest, hr]

/-- Settles O36. -/
theorem stepRunsPresentedRequest : Obligations.StepRunsPresentedRequest := by
  intro r rest i s hi hq hr hd
  rw [step_request hi hq hr, Except.ok.inj hd]

theorem advance_transfer (hq : s.seq = .transfer) : s.advance = s.runFrame := by simp only [State.advance, hq]

/-- Settles O37. -/
theorem stepRunsFrameOrOperation : Obligations.StepRunsFrameOrOperation := by
  refine ⟨fun i s hi hq hd => ?_, fun i s hi hc hq hq' => step_current hi hq hq' hc⟩
  rw [step_quiet hi, advance_transfer hq]
  simp only [State.runFrame, hd]

/-- In `TRANSFER` the machine sends `TX[0..tx_len-1]`, by the frame these bytes are or by the operation in progress. -/
theorem advance_transmits (hp : hasPhase i .transfer = true) (hc : s.cur = some i) (hq : s.seq = .transfer) :
    s.advance = .next (s.transmit s.txBytes) := by
  rw [advance_transfer hq]
  unfold State.runFrame
  split
  · next j hj => rw [exec_frame (encode_of_decodeFrame hj), sendFrame_transfer _ hq]
  · simp only [State.continueOp, hc, exec_transfer hp hc hq]

/-- Settles O38. -/
theorem transferInspectsNothing : Obligations.TransferInspectsNothing := by
  intro i s hinv hi hc hq
  have hp : hasPhase i .transfer = true := hq ▸ (hinv.phase i hc).1
  have hb : s.txBytes = opBytes i := hinv.frame i hc (by simp [hq])
  rw [step_quiet hi, advance_transmits hp hc hq, transmit_eq, readCount_of_cur hc, hb]

theorem step_reset {rest : List Input} (hi : s.inputs = .reset :: rest) :
    step s = .next ({ s with inputs := rest } : State).resetBlock := by
  simp only [step, State.sequence, hi]

/-- Settles O40. -/
theorem resetValues : Obligations.ResetValues := ⟨rfl, rfl, rfl, rfl, rfl, rfl, rfl, rfl, fun _ => rfl, fun _ => rfl⟩

/-- A reset in `TRANSFER` abandons a transfer that did not complete (R190). -/
theorem abandoned_transfer (hq : s.seq = .transfer) : s.abandoned =
    [transaction s.txBytes s.readCount { completed := false, rxdata := [], taken := Config.freeCount s.draws }] := by
  rw [State.abandoned, if_pos hq]
  rfl

theorem abandoned_nil (hq : s.seq ≠ .transfer) : s.abandoned = [] := by rw [State.abandoned, if_neg hq]

/-- What the target gets of a transfer is an initial part of it (R111). -/
theorem transaction_received_isPrefix (bytes : List Byte) (n : Nat) (a : Answer) :
    (transaction bytes n a).received <+: bytes := receivedBytes_isPrefix a bytes

/-- What a reset leaves on the record of the bus does not depend on the inputs to come. -/
theorem resetBlock_log (s : State) (l : List Input) :
    ({ s with inputs := l } : State).resetBlock.busLog = s.busLog ++ s.abandoned := rfl

/-- Settles O41. -/
theorem resetEventFromAnyState : Obligations.ResetEventFromAnyState := by
  intro rest s hi
  refine ⟨_, step_reset hi, rfl, rfl, rfl, rfl, rfl, rfl, rfl, rfl, rfl, fun _ => rfl, fun _ => rfl, rfl, rfl, rfl,
    ?_, ?_⟩
  · intro hq
    rw [resetBlock_log, abandoned_nil hq, List.append_nil]
  · intro hq
    exact ⟨_, by rw [resetBlock_log, abandoned_transfer hq], rfl, rfl, transaction_received_isPrefix _ _ _⟩

/-- Settles O60. -/
theorem foreignTrafficOnBusHandle : Obligations.ForeignTrafficOnBusHandle := by
  intro rest s hi
  refine ⟨fun hq => ?_, fun hq => ?_⟩ <;> simp [step, State.sequence, hi, State.otherTraffic, hq]

section
variable (s)

theorem hostStep_seq : s.hostStep.seq = s.seq := by obtain ⟨h, -⟩ := hostStep_block s; exact h

theorem hostStep_fault : s.hostStep.fault = s.fault := by
  obtain ⟨-, -, -, -, -, -, -, -, -, -, h, -⟩ := hostStep_block s
  exact h

theorem hostStep_cur : s.hostStep.cur = s.cur := by
  obtain ⟨-, -, -, -, -, -, -, -, -, -, -, -, h, -⟩ := hostStep_block s
  exact h

theorem hostStep_busLog : s.hostStep.busLog = s.busLog := by
  obtain ⟨-, -, -, -, -, -, -, -, -, -, -, -, -, h⟩ := hostStep_block s
  exact h

end

/-! ## What a request does in `IDLE` -/

/-- The moves of `Move` that begin in `IDLE`. -/
inductive RequestMove (s : State) : Instr → State → Prop where
  | checksum (data : List Byte) : RequestMove s (.crc8 data) { s with crc := crc8 data }
  | decoded {off : BitVec 5} {bits : Word32} (h : s.decodeAt off.toNat = some bits) :
      RequestMove s (.decodeFloat off) { s with fRes := bits }
  | outOfBounds {off : BitVec 5} (h : s.decodeAt off.toNat = none) : RequestMove s (.decodeFloat off) s.raiseFault
  | raw {i : Instr} (h : (∃ data, i = .busWrite data) ∨ ∃ data n, i = .busWriteThenRead data n)
      (hw : i.wellFormed = true) : RequestMove s i ((s.fillTx (opBytes i)).enter i .acquire)
  | plain {i : Instr} {code : Half} (h : commandCode i = some code) (ha : opArg i = none) :
      RequestMove s i ((s.latchCmd code).enter i .encode)
  | withArg {i : Instr} {code a : Half} (h : commandCode i = some code) (ha : opArg i = some a) :
      RequestMove s i (((s.latchCmd code).latchArg a).enter i .encode)

/-- A request run in `IDLE` does one of the six. -/
theorem Move.request {r : Request} (h : Move (decodeRequest r) s t) (hq : s.seq = .idle) :
    RequestMove s (decodeRequest r) t := by
  generalize hi : decodeRequest r = i at h
  cases h with
  | checksum data => exact .checksum data
  | decoded _ h => exact .decoded h
  | outOfBounds _ h => exact .outOfBounds h
  | writeAccepted _ h => exact .raw (.inl ⟨_, rfl⟩) h
  | readAccepted _ h h' => exact .raw (.inr ⟨_, _, rfl⟩) (by simp only [Instr.wellFormed, h, h', Bool.and_self])
  | plainAccepted _ h ha => exact .plain h ha
  | argAccepted _ h ha => exact .withArg h ha
  | frameSent _ h => exact absurd (hi ▸ h) (encode_decodeRequest_ne_frame r _)
  | frameWaits _ h => exact absurd (hi ▸ h) (encode_decodeRequest_ne_frame r _)
  | held hq' => exact absurd hq hq'
  | _ hq' => simp [hq] at hq'

/-! ## What a step does to the block -/

/-- Everything that can happen at a step: the reset event, something outside the block, the host's move, a request taken
and run, or a move of the operation in progress. -/
inductive BlockStep (s : State) : State → Prop where
  | reset (l : List Input) (h : s.resetting) : BlockStep s ({ s with inputs := l } : State).resetBlock
  | outside (l : List Input) (w : Option Worker) (k : Consumer) :
      BlockStep s { s with inputs := l, worker := w, consumer := k }
  | host (l : List Input) (hq : s.seq = .idle) : BlockStep s ({ s with inputs := l } : State).hostStep
  | request {l : List Input} {r : Request} {rest : List Request} {t : State} (hq : s.seq = .idle)
      (hr : s.requests = r :: rest) (h : RequestMove { s with inputs := l, requests := rest } (decodeRequest r) t) :
      BlockStep s t
  | busy {l : List Input} {i : Instr} {t : State} (hq : s.seq ≠ .idle) (hc : s.cur = some i)
      (h : OpMove i { s with inputs := l } t) : BlockStep s t

/-- Outside `IDLE` an operation is in progress. -/
theorem State.Inv.cur_busy (h : s.Inv) (hq : s.seq ≠ .idle) : ∃ i, s.cur = some i :=
  Option.ne_none_iff_exists'.1 fun hc => hq (h.idle hc)

/-- A move of the machine outside `IDLE` is one of the operation in progress: the frame in `TX`, where the machine runs
one, is sent as that operation's bytes. -/
theorem advance_busy (hinv : s.Inv) (hq : s.seq ≠ .idle) (h : s.advance = .next t) :
    ∃ i, s.cur = some i ∧ OpMove i s t := by
  obtain ⟨i, hc⟩ := hinv.cur_busy hq
  refine ⟨i, hc, ?_⟩
  by_cases ht : s.seq = .transfer
  · have hp : hasPhase i .transfer = true := ht ▸ (hinv.phase i hc).1
    rw [advance_transmits hp hc ht, hinv.frame i hc (by simp [ht])] at h
    cases h
    exact .sent ht hp
  · obtain ⟨hq', -⟩ | ⟨hq', -⟩ | ⟨-, j, hj, hm⟩ | ⟨ht', -⟩ := advance_move h
    · exact absurd hq' hq
    · exact absurd hq' hq
    · cases hc.symm.trans hj
      exact hm.operation hinv hc hq
    · exact absurd ht' ht

/-- Under the invariant every step is one of the five. -/
theorem step_block (hinv : s.Inv) (h : step s = .next t) : BlockStep s t := by
  obtain ⟨hr, l, rfl⟩ | ⟨l, w, k, rfl⟩ | ⟨l, h⟩ := step_next_cases h
  · exact .reset l hr
  · exact .outside l w k
  · by_cases hq : s.seq = .idle
    · obtain ⟨-, r, rest, hr, hm⟩ | ⟨-, -, rfl⟩ | ⟨hq', -⟩ | ⟨ht, -⟩ := advance_move h
      · exact .request hq hr (hm.request hq)
      · exact .host l hq
      · exact absurd hq hq'
      · exact absurd (hq.symm.trans ht) nofun
    · obtain ⟨i, hc, hm⟩ := advance_busy (hinv.withInputs l) hq h
      exact .busy hq hc hm

end Sys2Proof.Machine
end

section
/-! The invariant of the block is kept by every step (spec/10_state.md sections 3, 6, spec/20_memory.md section 1,
spec/70_reset_and_hazards.md section 3). Its thirteen clauses are proved in three parts: the transmit buffer, the
receive buffer, and the sequencer with the operation in progress. -/

namespace Sys2Proof.Machine

variable {s t : State} {i : Instr}

/-! ## The buffers -/

/-- The clauses of the invariant about `TX` and `tx_len` (R15). -/
structure State.TxOk (s : State) : Prop where
  wf     : s.tx.wf 5
  bound  : s.txLen.toNat ≤ 5
  filled : ∀ a, a < s.txLen.toNat → (s.tx.get a).isSome

/-- The clauses of the invariant about `RX` and `rx_len` (R16). -/
structure State.RxOk (s : State) : Prop where
  wf     : s.rx.wf 18
  bound  : s.rxLen.toNat ≤ 18
  filled : ∀ a, a < s.rxLen.toNat → (s.rx.get a).isSome

theorem State.Inv.txOk (h : s.Inv) : s.TxOk := ⟨h.txWf, h.txBound, h.txFilled⟩

theorem State.Inv.rxOk (h : s.Inv) : s.RxOk := ⟨h.rxWf, h.rxBound, h.rxFilled⟩

theorem State.TxOk.congr (h : s.TxOk) (h1 : t.tx = s.tx) (h2 : t.txLen = s.txLen) : t.TxOk :=
  ⟨h1 ▸ h.wf, h2 ▸ h.bound, h1 ▸ h2 ▸ h.filled⟩

theorem State.RxOk.congr (h : s.RxOk) (h1 : t.rx = s.rx) (h2 : t.rxLen = s.rxLen) : t.RxOk :=
  ⟨h1 ▸ h.wf, h2 ▸ h.bound, h1 ▸ h2 ▸ h.filled⟩

/-- The transmit buffer filled with at most five bytes. -/
theorem State.TxOk.fillTx (h : s.TxOk) {data : List Byte} (hl : data.length ≤ 5) : (s.fillTx data).TxOk := by
  have hn : (s.fillTx data).txLen.toNat = data.length := by
    rw [fillTx_txLen, BitVec.toNat_ofNat]
    omega
  refine ⟨Memory.wf_write h.wf (by omega), hn.trans_le hl, fun a ha => ?_⟩
  rw [hn] at ha
  rw [fillTx_tx, Memory.get_write, if_pos ⟨Nat.zero_le a, by omega⟩, Nat.sub_zero, List.getElem?_eq_getElem ha]
  rfl

/-- The receive buffer after a read of at most eighteen bytes, completed or not. -/
theorem State.RxOk.receive (h : s.RxOk) (hn : s.readCount ≤ 18) : s.receive.RxOk := by
  have hb : s.receive.rxLen.toNat ≤ 18 := by
    rw [receive_rxLen]
    split
    · rw [BitVec.toNat_ofNat]
      omega
    · exact Nat.zero_le _
  refine ⟨?_, hb, fun a ha => receive_get_isSome (ha.trans_le hb)⟩
  rw [receive_rx]
  exact Memory.wf_write h.wf (by rw [rxContents_length])

@[simp] theorem frameN_length (code : Half) : (frameN code).length = 2 := rfl

@[simp] theorem frameA_length (code arg : Half) (c : Byte) : (frameA code arg c).length = 5 := rfl

/-- A well-formed operation reads at most eighteen bytes (R101, R127). -/
theorem opReadLen_le (hw : i.wellFormed = true) : opReadLen i ≤ 18 := by
  cases i with
  | busWriteThenRead data n =>
    rw [Instr.wellFormed, Bool.and_eq_true] at hw
    exact (legalReadLength_iff.1 hw.2).2
  | readMeasurements => decide
  | _ => exact Nat.zero_le 18

/-! ## The two shapes of a state -/

/-- The invariant of an idle block. -/
theorem State.Inv.of_idle (htx : s.TxOk) (hrx : s.RxOk) (hq : s.seq = .idle) (hc : s.cur = none)
    (hb : s.busOwned = false) : s.Inv where
  txWf := htx.wf
  rxWf := hrx.wf
  txBound := htx.bound
  rxBound := hrx.bound
  txFilled := htx.filled
  rxFilled := hrx.filled
  owned := by simp [hb, hq]
  idle _ := hq
  phase := by simp [hc]
  latchCmd := by simp [hc]
  latchArg := by simp [hc]
  frame := by simp [hc]
  response := by simp [hq]

/-- What the invariant asks of the latches of the operation in progress. -/
structure State.Latched (i : Instr) (s : State) : Prop where
  cmd : ∀ code, commandCode i = some code → s.cmd = code
  arg : ∀ a, opArg i = some a → s.arg = a

theorem State.Inv.latched (h : s.Inv) (hc : s.cur = some i) : s.Latched i :=
  ⟨fun code => h.latchCmd i code hc, fun a => h.latchArg i a hc⟩

theorem State.Latched.congr (h : s.Latched i) (h1 : t.cmd = s.cmd) (h2 : t.arg = s.arg) : t.Latched i :=
  ⟨h1 ▸ h.cmd, h2 ▸ h.arg⟩

/-- The invariant of a block with an operation in progress. -/
theorem State.Inv.of_busy (htx : s.TxOk) (hrx : s.RxOk) (hc : s.cur = some i) (hp : hasPhase i s.seq = true)
    (hw : i.wellFormed = true) (hl : s.Latched i) (ho : s.busOwned = true ↔ s.seq = .transfer ∨ s.seq = .release)
    (hf : s.seq ≠ .encode → s.txBytes = opBytes i) (hr : s.seq = .decode → s.rxLen = 18) : s.Inv where
  txWf := htx.wf
  rxWf := hrx.wf
  txBound := htx.bound
  rxBound := hrx.bound
  txFilled := htx.filled
  rxFilled := hrx.filled
  owned := ho
  idle := by simp [hc]
  phase j hj := by
    cases hc.symm.trans hj
    exact ⟨hp, hw⟩
  latchCmd j code hj := by
    cases hc.symm.trans hj
    exact hl.cmd code
  latchArg j a hj := by
    cases hc.symm.trans hj
    exact hl.arg a
  frame j hj := by
    cases hc.symm.trans hj
    exact hf
  response := hr

/-- The bus is not owned outside `TRANSFER` and `RELEASE`. -/
theorem State.Inv.not_owned (h : s.Inv) (ht : s.seq ≠ .transfer) (hr : s.seq ≠ .release) : s.busOwned = false := by
  rw [← Bool.not_eq_true, h.owned]
  simp [ht, hr]

/-! ## Reset -/

theorem atReset_inv (n : Nat) : (State.atReset n).Inv :=
  .of_idle ⟨⟨.nil, by simp [State.atReset]⟩, by simp [State.atReset], by simp [State.atReset]⟩
    ⟨⟨.nil, by simp [State.atReset]⟩, by simp [State.atReset], by simp [State.atReset]⟩ rfl rfl rfl

theorem resetBlock_inv (s : State) : s.resetBlock.Inv :=
  (atReset_inv (s.draws + 1)).of_block rfl rfl rfl rfl rfl rfl rfl rfl rfl

/-- Settles O43. -/
theorem resetMeetsInvariants : Obligations.ResetMeetsInvariants := ⟨atReset_inv 0, fun _ hw => nomatch hw⟩

/-! ## A request in `IDLE` -/

theorem hasPhase_of_commandCode {code : Half} (h : commandCode i = some code) :
    hasPhase i .encode = true ∧ i.wellFormed = true := by
  cases i with
  | startMeasurement => exact ⟨rfl, rfl⟩
  | setInterval => exact ⟨rfl, rfl⟩
  | calibrate => exact ⟨rfl, rfl⟩
  | readMeasurements => exact ⟨rfl, rfl⟩
  | _ => cases h

/-- A raw request that is accepted stands in `TX`. -/
theorem accepted_raw_inv (hinv : s.Inv) (hq : s.seq = .idle)
    (h : (∃ data, i = .busWrite data) ∨ ∃ data n, i = .busWriteThenRead data n) (hw : i.wellFormed = true) :
    ((s.fillTx (opBytes i)).enter i .acquire).Inv := by
  have hl : (opBytes i).length ≤ 5 := by
    obtain ⟨data, rfl⟩ | ⟨data, n, rfl⟩ := h
    · exact (legalWriteLength_iff.1 hw).2
    · rw [Instr.wellFormed, Bool.and_eq_true] at hw
      exact (legalWriteLength_iff.1 hw.1).2
  have hi : hasPhase i .acquire = true ∧ commandCode i = none ∧ opArg i = none := by
    obtain ⟨data, rfl⟩ | ⟨data, n, rfl⟩ := h <;> exact ⟨rfl, rfl, rfl⟩
  obtain ⟨hp, hcode, harg⟩ := hi
  refine .of_busy ((hinv.txOk.fillTx hl).congr rfl rfl) (hinv.rxOk.congr rfl rfl) rfl hp hw
    ⟨by simp [hcode], by simp [harg]⟩ ?_ (fun _ => txBytes_fillTx s _ hl) nofun
  simp [hinv.not_owned, hq]

/-- A command that is accepted waits in `ENCODE`, its operands latched. -/
theorem accepted_command_inv (hinv : s.Inv) (hq : s.seq = .idle) {u : State}
    (hu : u = { s with cmd := u.cmd, arg := u.arg }) (hp : hasPhase i .encode = true)
    (hw : i.wellFormed = true) (hl : u.Latched i) : (u.enter i .encode).Inv := by
  refine .of_busy (hinv.txOk.congr ?_ ?_) (hinv.rxOk.congr ?_ ?_) rfl hp hw (hl.congr rfl rfl) ?_ nofun nofun
  all_goals rw [hu]
  all_goals simp [hinv.not_owned, hq]

theorem RequestMove.keeps_inv (h : RequestMove s i t) (hinv : s.Inv) (hq : s.seq = .idle) : t.Inv := by
  cases h with
  | checksum => exact hinv.of_block rfl rfl rfl rfl rfl rfl rfl rfl rfl
  | decoded => exact hinv.of_block rfl rfl rfl rfl rfl rfl rfl rfl rfl
  | outOfBounds =>
    rw [raiseFault_idle hq (hinv.cur_idle hq)]
    exact hinv.of_block rfl rfl rfl rfl rfl rfl rfl rfl rfl
  | raw h hw => exact accepted_raw_inv hinv hq h hw
  | plain h ha =>
    obtain ⟨hp, hw⟩ := hasPhase_of_commandCode h
    exact accepted_command_inv hinv hq rfl hp hw ⟨fun _ => by simp [h], by simp [ha]⟩
  | withArg h ha =>
    obtain ⟨hp, hw⟩ := hasPhase_of_commandCode h
    exact accepted_command_inv hinv hq rfl hp hw ⟨fun _ => by simp [h], fun _ => by simp [ha]⟩

/-! ## The operation in progress -/

/-- An operation that waits for the bus goes through `TRANSFER` and `RELEASE` as well (R197). -/
theorem hasPhase_bus (h : hasPhase i .acquire = true) :
    hasPhase i .transfer = true ∧ hasPhase i .release = true := by
  cases i <;> simp_all [hasPhase]

/-- The frame a command has built is its own: the latches hold its code and its argument. -/
theorem encodeN_txBytes (hl : s.Latched i) (h : i = .startMeasurement ∨ i = .readMeasurements) :
    s.encodeN.txBytes = opBytes i := by
  rw [State.encodeN, txBytes_fillTx _ _ (by simp)]
  obtain rfl | rfl := h <;> rw [hl.cmd _ rfl] <;> rfl

theorem encodeA_txBytes (hl : s.Latched i) (h : (∃ a, i = .setInterval a) ∨ (∃ a, i = .calibrate a)) :
    s.encodeA.txBytes = opBytes i := by
  have hb : s.encodeA.txBytes = frameA s.cmd s.arg (argCrc s.arg) := txBytes_fillTx s _ (by simp)
  obtain ⟨a, rfl⟩ | ⟨a, rfl⟩ := h <;> rw [hb, hl.cmd _ rfl, hl.arg _ rfl] <;> rfl

theorem OpMove.keeps_inv (h : OpMove i s t) (hinv : s.Inv) (hc : s.cur = some i) : t.Inv := by
  obtain ⟨hp, hw⟩ := hinv.phase i hc
  have htx := hinv.txOk
  have hrx := hinv.rxOk
  have hl := hinv.latched hc
  have hread : s.release.receive.RxOk :=
    State.RxOk.receive (hrx.congr rfl rfl) ((readCount_of_cur (s := s.release) hc).trans_le (opReadLen_le hw))
  cases h with
  | builtN hq h =>
    refine .of_busy ((htx.fillTx (data := frameN s.cmd) (by simp)).congr rfl rfl) (hrx.congr rfl rfl) hc ?_ hw
      (hl.congr rfl rfl) (by simp [hinv.not_owned, hq]) (fun _ => encodeN_txBytes hl h) nofun
    obtain rfl | rfl := h <;> rfl
  | builtA hq h =>
    refine .of_busy ((htx.fillTx (data := frameA s.cmd s.arg (argCrc s.arg)) (by simp)).congr rfl rfl)
      (hrx.congr rfl rfl) hc ?_ hw (hl.congr rfl rfl) (by simp [hinv.not_owned, hq])
      (fun _ => encodeA_txBytes hl h) nofun
    obtain ⟨a, rfl⟩ | ⟨a, rfl⟩ := h <;> rfl
  | acquiring hq h =>
    have hb : s.txBytes = opBytes i := hinv.frame i hc (by simp [hq])
    obtain ⟨g, -, h'⟩ | ⟨g, -, h'⟩ | ⟨-, h'⟩ := acquire_cases s <;> rw [h']
    · exact .of_busy (htx.congr rfl rfl) (hrx.congr rfl rfl) hc (hasPhase_bus h).1 hw (hl.congr rfl rfl) (by simp)
        (fun _ => hb) nofun
    · exact hinv.of_block rfl rfl rfl rfl rfl rfl rfl rfl rfl
    · exact hinv
  | sent hq h =>
    have ho : s.busOwned = true := hinv.owned.2 (.inl hq)
    have hr : hasPhase i .release = true := by cases i <;> simp_all [hasPhase]
    exact .of_busy (htx.congr rfl rfl) (hrx.congr rfl rfl) hc hr hw (hl.congr rfl rfl) (by simp [ho])
      (fun _ => hinv.frame i hc (by simp [hq])) nofun
  | written hq => exact .of_idle (htx.congr rfl rfl) (hrx.congr rfl rfl) rfl rfl rfl
  | rawRead _ hq =>
    exact .of_idle (htx.congr (by simp) (by simp)) (hread.congr (finish_rx _) (finish_rxLen _)) rfl rfl (by simp)
  | readDone hi hq hx =>
    subst hi
    have hn : s.release.readCount = 18 := readCount_of_cur (s := s.release) hc
    have hb : (s.release.receive.goto .decode).txBytes = s.txBytes := by simp [State.txBytes]
    refine .of_busy (htx.congr (by simp) (by simp)) (hread.congr (goto_rx _ _) (goto_rxLen _ _)) (by simpa using hc) rfl
      rfl (hl.congr (by simp) (by simp)) (by simp) (fun _ => hb.trans (hinv.frame _ hc (by simp [hq]))) (fun _ => ?_)
    simp [hx, hn]
  | readFailed _ hq =>
    have hrx' : s.release.receive.dropSample.finish.RxOk := hread.congr (by simp) (by simp)
    exact .of_idle (htx.congr (by simp) (by simp)) hrx' rfl rfl (by simp)
  | sampled _ hq =>
    exact .of_idle (htx.congr rfl rfl) (hrx.congr rfl rfl) rfl rfl (hinv.not_owned (by simp [hq]) (by simp [hq]))

/-- The host's move writes nothing that the invariant speaks of. -/
theorem hostStep_inv (hinv : s.Inv) : s.hostStep.Inv := by
  obtain ⟨hq, -, hcmd, harg, htx, htl, hrx, hrl, -, -, -, ho, hc, -⟩ := hostStep_block s
  exact hinv.of_block htx htl hrx hrl ho hq hc hcmd harg

/-- Settles O42: each of the five kinds of step keeps the invariant. -/
theorem stepKeepsBlockInvariant : Obligations.StepKeepsBlockInvariant := by
  intro s t hinv h
  cases step_block hinv h with
  | reset l => exact resetBlock_inv _
  | outside => exact hinv.of_block rfl rfl rfl rfl rfl rfl rfl rfl rfl
  | host l => exact hostStep_inv (hinv.withInputs l)
  | request hq hr h => exact h.keeps_inv (hinv.of_block rfl rfl rfl rfl rfl rfl rfl rfl rfl) hq
  | busy hq hc h => exact h.keeps_inv (hinv.withInputs _) hc

end Sys2Proof.Machine
end

section
/-! What holds of every step of the whole machine (spec/30_encoding.md section 2, spec/60_exceptions.md sections 1, 7,
spec/70_reset_and_hazards.md section 3), read off the five kinds of step. -/

namespace Sys2Proof.Machine

variable {s t : State} {i : Instr}

/-! ## Requests -/

theorem OpMove.requests_eq (h : OpMove i s t) : t.requests = s.requests := by cases h <;> simp

/-- Outside `IDLE` an operation other than the one in progress is held (R62). -/
theorem exec_held (hq : s.seq ≠ .idle) (hc : s.cur ≠ some i) (he : ∀ bytes, encode i ≠ .frame bytes) :
    exec i s = .next s := by
  cases i with
  | wireStartMeasurement => exact absurd rfl (he _)
  | wireReadMeasurements => exact absurd rfl (he _)
  | wireSetInterval => exact absurd rfl (he _)
  | wireCalibrate => exact absurd rfl (he _)
  | _ => exact serve_held _ hq hc

/-- Settles O39. -/
theorem busyBlockHoldsRequests : Obligations.BusyBlockHoldsRequests := by
  refine ⟨fun s t hinv hq h => ?_, fun r s hq hc => exec_held hq hc (encode_decodeRequest_ne_frame r)⟩
  cases step_block hinv h with
  | reset => rfl
  | outside => rfl
  | host _ hq' => exact absurd hq' hq
  | request hq' => exact absurd hq' hq
  | busy _ _ h => exact h.requests_eq

/-! ## Faults of the model -/

theorem consumerCall_ne_fault (c : ConsumerCall) (f : Fault) : s.consumerCall c ≠ .fault f := by
  unfold State.consumerCall
  split
  · cases c with
    | start =>
      simp only [State.callWorker]
      split
      · split <;> nofun
      · nofun
    | stop =>
      simp only [State.callWorker]
      split <;> nofun
    | _ => nofun
  · split
    · split <;> nofun
    all_goals nofun

/-- The operation in progress is in a phase it has, so no move of the machine raises a fault of the model. -/
theorem advance_ne_fault (hinv : s.Inv) (f : Fault) : s.advance ≠ .fault f := by
  intro h
  have goOn : s.seq ≠ .idle → s.continueOp ≠ .fault f := by
    intro hq h
    obtain ⟨i, hc⟩ := hinv.cur_busy hq
    simp only [State.continueOp, hc] at h
    obtain ⟨-, -, hp⟩ := exec_fault h
    simp [(hinv.phase i hc).1] at hp
  unfold State.advance at h
  split at h
  case h_1 hq =>
    unfold State.runRequest at h
    split at h
    · exact (exec_fault h).1 hq
    · cases h
  case h_2 hq =>
    obtain ⟨i, hc⟩ := hinv.cur_busy (by simp [hq])
    have ha := advance_transmits (hq ▸ (hinv.phase i hc).1) hc hq
    rw [advance_transfer hq] at ha
    exact nomatch ha.symm.trans h
  all_goals (next hq => exact goOn (by simp [hq]) h)

/-- Settles O44. -/
theorem noStepFaults : Obligations.NoStepFaults := by
  intro s f hinv h
  obtain ⟨_, -, h⟩ | ⟨c, l, -, -, h⟩ | ⟨l, -, h⟩ | ⟨l, -, h⟩ | h := step_cases h
  · cases h
  · exact consumerCall_ne_fault c f h.symm
  · unfold State.otherTraffic at h
    split at h <;> cases h
  · exact advance_ne_fault (hinv.withInputs l) f h.symm
  · exact advance_ne_fault hinv f h.symm

/-! ## The sequencer -/

/-- A request leaves `IDLE` for the first phase of its operation, or completes in place. -/
theorem RequestMove.arrow_or_stays (h : RequestMove s i t) (hq : s.seq = .idle) (hc : s.cur = none) :
    (t.seq = .idle ∧ t.cur = none) ∨ t.seq = .acquire ∨ t.seq = .encode := by
  cases h with
  | checksum => exact .inl ⟨hq, hc⟩
  | decoded => exact .inl ⟨hq, hc⟩
  | outOfBounds => exact .inl ⟨rfl, rfl⟩
  | raw => exact .inr (.inl rfl)
  | plain => exact .inr (.inr rfl)
  | withArg => exact .inr (.inr rfl)

/-- A move of the operation in progress follows an arrow of R197, or is a wait in `ACQUIRE`. -/
theorem OpMove.arrow_or_waits (h : OpMove i s t) :
    (t.seq = s.seq ∧ t.cur = s.cur) ∨
    (arrow s.seq t.seq = true ∧ (s.seq = .acquire → ∃ g, s.grants = true :: g ∧ t.seq = .transfer) ∧
      (t.seq = .decode → i = .readMeasurements ∧ s.xfer.completed = true)) := by
  cases h with
  | builtN hq => exact .inr ⟨by rw [hq]; rfl, by simp [hq], nofun⟩
  | builtA hq => exact .inr ⟨by rw [hq]; rfl, by simp [hq], nofun⟩
  | acquiring hq =>
    obtain ⟨g, hg, h⟩ | ⟨g, -, h⟩ | ⟨-, h⟩ := acquire_cases s <;> rw [h]
    · exact .inr ⟨by rw [hq]; rfl, fun _ => ⟨g, hg, rfl⟩, nofun⟩
    · exact .inl ⟨rfl, rfl⟩
    · exact .inl ⟨rfl, rfl⟩
  | readDone hi hq hx => exact .inr ⟨by rw [hq]; rfl, by simp [hq], fun _ => ⟨hi, hx⟩⟩
  | _ => exact .inr (by simp_all [arrow])

/-- Settles O45. -/
theorem sequencerFollowsArrows : Obligations.SequencerFollowsArrows := by
  intro s t hinv h
  cases step_block hinv h with
  | reset l hr => exact .inl ⟨hr, rfl⟩
  | outside => exact .inr (.inl ⟨rfl, rfl⟩)
  | host l => exact .inr (.inl ⟨hostStep_seq _, hostStep_cur _⟩)
  | request hq _ h =>
    have hc := hinv.cur_idle hq
    rw [hq, hc]
    obtain ⟨hq', hc'⟩ | hq' | hq' := h.arrow_or_stays hq hc
    · exact .inr (.inl ⟨hq', hc'⟩)
    · exact .inr (.inr ⟨by rw [hq']; rfl, nofun, by simp [hq']⟩)
    · exact .inr (.inr ⟨by rw [hq']; rfl, nofun, by simp [hq']⟩)
  | busy _ hc h =>
    obtain hs | ⟨ha, hg, hd⟩ := h.arrow_or_waits
    · exact .inr (.inl hs)
    · refine .inr (.inr ⟨ha, hg, fun hq => ?_⟩)
      obtain ⟨rfl, hx⟩ := hd hq
      exact ⟨hc, hx⟩

/-! ## The fault flag -/

/-- Settles O46. -/
theorem faultIsSticky : Obligations.FaultIsSticky := by
  intro s t hf h
  obtain ⟨hr, -⟩ | ⟨l, w, k, rfl⟩ | ⟨l, h⟩ := step_next_cases h
  · exact .inl hr
  · exact .inr hf
  · refine .inr ?_
    obtain ⟨-, r, rest, -, hm⟩ | ⟨-, -, rfl⟩ | ⟨-, i, -, hm⟩ | ⟨-, i, -, hm⟩ := advance_move h
    · exact hm.fault_sticky hf
    · exact (hostStep_fault _).trans hf
    · exact hm.fault_sticky hf
    · exact hm.fault_sticky hf

theorem OpMove.fault_eq (h : OpMove i s t) : t.fault = s.fault := by cases h <;> simp

/-- In a state whose receive buffer is filled a request raises the fault only as a decode out of bounds. -/
theorem RequestMove.raises_fault (h : RequestMove s i t) (hrx : s.RxOk) (hf : s.fault = false) (ht : t.fault = true) :
    ∃ off, i = .decodeFloat off ∧ off.toNat + 4 > s.rxLen.toNat := by
  cases h with
  | @outOfBounds off h =>
    refine ⟨off, rfl, Nat.lt_of_not_le fun hl => ?_⟩
    have := decodeAt_isSome hrx.filled hl
    simp [h] at this
  | _ => simp [hf] at ht

/-- Settles O47. -/
theorem onlyDecodeFloatRaisesFault : Obligations.OnlyDecodeFloatRaisesFault := by
  intro s t hinv hf h ht
  cases step_block hinv h with
  | reset => cases ht
  | outside => exact absurd (hf.symm.trans ht) nofun
  | host l =>
    rw [hostStep_fault] at ht
    exact absurd (hf.symm.trans ht) nofun
  | @request l r rest _ hq hr h =>
    obtain ⟨off, hd, hl⟩ := h.raises_fault (hinv.rxOk.congr rfl rfl) hf ht
    exact ⟨hq, r, rest, off, hr, hd, hl⟩
  | busy _ _ h => exact absurd (hf.symm.trans (h.fault_eq.symm.trans ht)) nofun

/-! ## The bus -/

theorem addrByte_eq : Config.addrByte = 0xC2 := rfl

/-- The record of a transfer: addressed to the target, the bytes and the count asked for, and what the target got. -/
theorem transaction_spec (bytes : List Byte) (n : Nat) (a : Answer) :
    (transaction bytes n a).address = 0xC2 ∧ (transaction bytes n a).written = bytes ∧
    (transaction bytes n a).readLen = n ∧ (transaction bytes n a).received <+: bytes ∧
    ((transaction bytes n a).completed = true → (transaction bytes n a).received = bytes) :=
  ⟨addrByte_eq, rfl, rfl, transaction_received_isPrefix bytes n a, fun h => if_pos h⟩

theorem RequestMove.busLog_eq (h : RequestMove s i t) : t.busLog = s.busLog := by cases h <;> simp

/-- Only a step in `TRANSFER` adds to the record of the bus, and one transfer of the operation's own bytes. -/
theorem OpMove.busLog_cases (h : OpMove i s t) (hc : s.cur = some i) : t.busLog = s.busLog ∨
    (s.seq = .transfer ∧ t.busLog = s.busLog ++ [transaction (opBytes i) (opReadLen i) s.answer]) := by
  cases h with
  | sent hq => exact .inr ⟨hq, by rw [transmit_eq, readCount_of_cur hc]⟩
  | _ => exact .inl (by simp)

/-- Settles O48. -/
theorem busCarriesOnlyOwnedTransfers : Obligations.BusCarriesOnlyOwnedTransfers := by
  intro s t hinv h
  have owned {i : Instr} (a : Answer) (hq : s.seq = .transfer) (hc : s.cur = some i)
      (hl : t.busLog = s.busLog ++ [transaction (opBytes i) (opReadLen i) a]) :
      s.seq = .transfer ∧ s.busOwned = true ∧ ∃ i x, s.cur = some i ∧ t.busLog = s.busLog ++ [x] ∧
        x.address = 0xC2 ∧ x.written = opBytes i ∧ x.readLen = opReadLen i ∧ x.received <+: x.written ∧
        (x.completed = true → x.received = x.written) :=
    ⟨hq, hinv.owned.2 (.inl hq), i, _, hc, hl, transaction_spec _ _ a⟩
  cases step_block hinv h with
  | reset l =>
    by_cases hq : s.seq = .transfer
    · obtain ⟨i, hc⟩ := hinv.cur_busy (by simp [hq])
      refine .inr (owned { completed := false, rxdata := [], taken := Config.freeCount s.draws } hq hc ?_)
      rw [resetBlock_log, abandoned_transfer hq, hinv.frame i hc (by simp [hq]), readCount_of_cur hc]
    · exact .inl (by rw [resetBlock_log, abandoned_nil hq, List.append_nil])
  | outside => exact .inl rfl
  | host l => exact .inl (hostStep_busLog _)
  | request _ _ h => exact .inl h.busLog_eq
  | busy _ hc h =>
    obtain hl | ⟨hq, hl⟩ := h.busLog_cases hc
    · exact .inl hl
    · exact .inr (owned s.answer hq hc hl)

/-! ## Progress -/

/-- Settles O49: without a grant each step in `ACQUIRE` changes nothing. -/
theorem noGrantNoProgress : Obligations.NoGrantNoProgress := by
  intro n s hinv hi hq hg
  obtain ⟨i, hc⟩ := hinv.cur_busy (by simp [hq])
  have wait : step s = .next s := by
    rw [step_current hi (by simp [hq]) (by simp [hq]) hc, exec_acquire (hq ▸ (hinv.phase i hc).1) hc hq,
      acquire_never hg]
  induction n with
  | zero => rfl
  | succ n ih => rw [runSteps_next wait, ih]

/-- A frame is sent or waits; it is never refused and raises no fault. -/
theorem sendFrame_next (bytes : List Byte) : ∃ t, s.sendFrame bytes = .next t := by
  by_cases hq : s.seq = .transfer
  · exact ⟨_, sendFrame_transfer bytes hq⟩
  · exact ⟨_, sendFrame_waits bytes hq⟩

/-- Only a request in `IDLE` is refused. -/
theorem exec_refused {r : Refusal} (h : exec i s = .refused r) : s.seq = .idle := by
  have served {x : Result} (hr : s.serve i x = .refused r) : x = .refused r := by
    obtain ⟨-, rfl⟩ | ⟨-, -, hn⟩ := serve_cases hr
    · rfl
    · cases hn
  have sent (bytes : List Byte) : s.sendFrame bytes ≠ .refused r := by
    obtain ⟨t, ht⟩ := sendFrame_next (s := s) bytes
    simp [ht]
  cases i with
  | wireStartMeasurement => exact absurd h (sent _)
  | wireReadMeasurements => exact absurd h (sent _)
  | wireSetInterval => exact absurd h (sent _)
  | wireCalibrate => exact absurd h (sent _)
  | _ =>
    have h := served h
    split at h <;> (try split at h) <;> simp_all

/-- The operation in progress always goes on from a phase it has. -/
theorem exec_progress (hq : s.seq ≠ .idle) (hp : hasPhase i s.seq = true) : ∃ t, exec i s = .next t := by
  cases h : exec i s with
  | next t => exact ⟨t, rfl⟩
  | fault f =>
    obtain ⟨-, -, hp'⟩ := exec_fault h
    simp [hp] at hp'
  | refused r => exact absurd (exec_refused h) hq

/-- Outside `IDLE` a quiet step is a move of the operation in progress. -/
theorem step_busy (hinv : s.Inv) (hi : s.inputs = []) (hq : s.seq ≠ .idle) :
    ∃ i t, s.cur = some i ∧ step s = .next t ∧ OpMove i s t := by
  obtain ⟨i, hc⟩ := hinv.cur_busy hq
  have hp := (hinv.phase i hc).1
  have hs : ∃ t, step s = .next t := by
    by_cases ht : s.seq = .transfer
    · exact ⟨_, (step_quiet hi).trans (advance_transmits (ht ▸ hp) hc ht)⟩
    · rw [step_current hi hq ht hc]
      exact exec_progress hq hp
  obtain ⟨t, ht⟩ := hs
  obtain ⟨j, hj, hm⟩ := advance_busy hinv hq ((step_quiet hi).symm.trans ht)
  exact ⟨j, t, hj, ht, hm⟩

/-- How many steps an operation needs at most from a phase on, the bus granted at once (R197). -/
def phasesLeft : Phase → Nat
  | .encode   => 5
  | .acquire  => 4
  | .transfer => 3
  | .release  => 2
  | .decode   => 1
  | .idle     => 0

/-- A grant is ready for a block that has not got the bus yet. -/
def State.GrantReady (s : State) : Prop := (s.seq = .encode ∨ s.seq = .acquire) → ∃ g, s.grants = true :: g

/-- With a grant ready every move brings the operation nearer to its end, and a grant stays ready as long as the block
waits for one. -/
theorem OpMove.nearer_end (h : OpMove i s t) (hg : s.GrantReady) :
    phasesLeft t.seq < phasesLeft s.seq ∧ t.GrantReady := by
  cases h with
  | builtN hq => exact ⟨by simp [hq, phasesLeft], fun _ => hg (.inl hq)⟩
  | builtA hq => exact ⟨by simp [hq, phasesLeft], fun _ => hg (.inl hq)⟩
  | acquiring hq =>
    obtain ⟨g, hg⟩ := hg (.inr hq)
    rw [acquire_granted hg]
    exact ⟨by simp [hq, phasesLeft], by simp [State.GrantReady]⟩
  | _ => simp_all [phasesLeft, State.GrantReady]

theorem OpMove.inputs_eq (h : OpMove i s t) : t.inputs = s.inputs := by cases h <;> simp

/-- A granted operation is back in `IDLE`, the bus given up, after at most as many steps as phases are left to it. -/
theorem ends_within (m : Nat) (hinv : s.Inv) (hi : s.inputs = []) (hg : s.GrantReady) (hm : phasesLeft s.seq ≤ m) :
    ∃ n t, n ≤ m ∧ runSteps n s = .next t ∧ t.seq = .idle ∧ t.busOwned = false := by
  induction m generalizing s with
  | zero =>
    have hq : s.seq = .idle := by
      cases hs : s.seq <;> simp [hs, phasesLeft] at hm ⊢
    exact ⟨0, s, Nat.le_refl 0, rfl, hq, hinv.not_owned (by simp [hq]) (by simp [hq])⟩
  | succ m ih =>
    by_cases hq : s.seq = .idle
    · exact ⟨0, s, Nat.zero_le _, rfl, hq, hinv.not_owned (by simp [hq]) (by simp [hq])⟩
    · obtain ⟨i, t, hc, hs, h⟩ := step_busy hinv hi hq
      obtain ⟨hlt, hg'⟩ := h.nearer_end hg
      obtain ⟨n, u, hn, hr, hu⟩ := ih (h.keeps_inv hinv hc) (h.inputs_eq.trans hi) hg' (by omega)
      exact ⟨n + 1, u, by omega, (runSteps_next hs).trans hr, hu⟩

/-- Settles O50. -/
theorem grantedOperationEnds : Obligations.GrantedOperationEnds := by
  intro s hinv hi _ hg
  exact ends_within 5 hinv hi hg (by cases s.seq <;> decide)

end Sys2Proof.Machine
end

section
/-! Whole operations, from the request to the result, the bus granted at once (spec/42_bus_transport.md sections 3, 4,
spec/43_sensor_commands.md sections 2, 3), and the commands as compositions of the primitives (spec/30_encoding.md
section 5). The two steps that every bus operation shares, the grant and the transfer, are run once. -/

namespace Sys2Proof.Machine

variable {s t : State} {i : Instr} {rest : List Request} {g : List Bool}

/-! ## The grant and the transfer -/

/-- The block right before `RELEASE`: the grant taken, the bytes of `TX` sent, the answer held. -/
def State.transferred (i : Instr) (g : List Bool) (s : State) : State :=
  { s with
    grants := g, busOwned := true, transfers := s.transfers.tail, draws := s.draws + 1
    xfer := { completed := s.answer.completed, rxdata := s.answer.rxdata }
    busLog := s.busLog ++ [transaction s.txBytes (opReadLen i) s.answer], seq := .release }

theorem step_transfer (hi : s.inputs = []) (hp : hasPhase i .transfer = true) (hc : s.cur = some i)
    (hq : s.seq = .transfer) : step s = .next (s.transmit s.txBytes) :=
  (step_quiet hi).trans (advance_transmits hp hc hq)

section
variable (s)

@[simp] theorem transferred_seq : (s.transferred i g).seq = .release := rfl
@[simp] theorem transferred_crc : (s.transferred i g).crc = s.crc := rfl
@[simp] theorem transferred_cmd : (s.transferred i g).cmd = s.cmd := rfl
@[simp] theorem transferred_arg : (s.transferred i g).arg = s.arg := rfl
@[simp] theorem transferred_tx : (s.transferred i g).tx = s.tx := rfl
@[simp] theorem transferred_txLen : (s.transferred i g).txLen = s.txLen := rfl
@[simp] theorem transferred_valid : (s.transferred i g).valid = s.valid := rfl
@[simp] theorem transferred_fault : (s.transferred i g).fault = s.fault := rfl
@[simp] theorem transferred_fCo2 : (s.transferred i g).fCo2 = s.fCo2 := rfl
@[simp] theorem transferred_fTemp : (s.transferred i g).fTemp = s.fTemp := rfl
@[simp] theorem transferred_fHum : (s.transferred i g).fHum = s.fHum := rfl
@[simp] theorem transferred_fRes : (s.transferred i g).fRes = s.fRes := rfl
@[simp] theorem transferred_cur : (s.transferred i g).cur = s.cur := rfl
@[simp] theorem transferred_xfer : (s.transferred i g).xfer =
    { completed := s.answer.completed, rxdata := s.answer.rxdata } := rfl
@[simp] theorem transferred_requests : (s.transferred i g).requests = s.requests := rfl
@[simp] theorem transferred_busLog : (s.transferred i g).busLog =
    s.busLog ++ [transaction s.txBytes (opReadLen i) s.answer] := rfl

end

/-- From `ACQUIRE` with a grant ready two steps lead to `RELEASE`. -/
theorem runSteps_transferred (n : Nat) (hi : s.inputs = []) (hq : s.seq = .acquire) (hc : s.cur = some i)
    (hp : hasPhase i .acquire = true) (hg : s.grants = true :: g) :
    runSteps (n + 2) s = runSteps n (s.transferred i g) := by
  have h1 : step s = .next s.acquire := by
    rw [step_current hi (by simp [hq]) (by simp [hq]) hc, exec_acquire hp hc hq]
  have hq' : s.acquire.seq = .transfer := by rw [acquire_granted hg]
  have h2 := step_transfer ((acquire_inputs s).trans hi) (hasPhase_bus hp).1 ((acquire_cur s).trans hc) hq'
  rw [runSteps_next h1, runSteps_next h2, transmit_eq, readCount_of_cur ((acquire_cur s).trans hc), acquire_granted hg]
  rfl

/-- A pure write runs from `ACQUIRE` to its end in three steps. -/
theorem runSteps_write
    (h : (∃ data, i = .busWrite data) ∨ i = .startMeasurement ∨ (∃ a, i = .setInterval a) ∨ (∃ a, i = .calibrate a))
    (hi : s.inputs = []) (hq : s.seq = .acquire) (hc : s.cur = some i) (hg : s.grants = true :: g) :
    runSteps 3 s = .next (s.transferred i g).release.finish := by
  have hp : hasPhase i .acquire = true := by obtain ⟨data, rfl⟩ | rfl | ⟨a, rfl⟩ | ⟨a, rfl⟩ := h <;> rfl
  have hr : step (s.transferred i g) = .next (s.transferred i g).release.finish :=
    (step_current (s := s.transferred i g) hi (by simp [State.transferred]) (by simp [State.transferred]) hc).trans
      (exec_release_write h hc rfl)
  rw [runSteps_transferred 1 hi hq hc hp hg, runSteps_next hr, runSteps_zero]

/-! ## The raw operations -/

/-- The request presented is taken off the interface. -/
def State.takeRequest (rest : List Request) (s : State) : State := { s with requests := rest }

section
variable (s)

@[simp] theorem takeRequest_crc : (s.takeRequest rest).crc = s.crc := rfl
@[simp] theorem takeRequest_cmd : (s.takeRequest rest).cmd = s.cmd := rfl
@[simp] theorem takeRequest_arg : (s.takeRequest rest).arg = s.arg := rfl
@[simp] theorem takeRequest_tx : (s.takeRequest rest).tx = s.tx := rfl
@[simp] theorem takeRequest_valid : (s.takeRequest rest).valid = s.valid := rfl
@[simp] theorem takeRequest_fault : (s.takeRequest rest).fault = s.fault := rfl
@[simp] theorem takeRequest_fCo2 : (s.takeRequest rest).fCo2 = s.fCo2 := rfl
@[simp] theorem takeRequest_fTemp : (s.takeRequest rest).fTemp = s.fTemp := rfl
@[simp] theorem takeRequest_fHum : (s.takeRequest rest).fHum = s.fHum := rfl
@[simp] theorem takeRequest_fRes : (s.takeRequest rest).fRes = s.fRes := rfl
@[simp] theorem takeRequest_requests : (s.takeRequest rest).requests = rest := rfl
@[simp] theorem takeRequest_busLog : (s.takeRequest rest).busLog = s.busLog := rfl

/-! The answer to the coming transfer does not depend on the operation, the sequencer or the buffers. -/

@[simp] theorem answer_takeRequest : (s.takeRequest rest).answer = s.answer := rfl
@[simp] theorem answer_fillTx (data : List Byte) : (s.fillTx data).answer = s.answer := rfl
@[simp] theorem answer_enter (p : Phase) : (s.enter i p).answer = s.answer := rfl

end

/-- The first step of a requested operation. -/
theorem State.Requested.step_eq (h : s.Requested i rest) : step s = exec i (s.takeRequest rest) := by
  obtain ⟨r, hr, hd⟩ := h.request
  rw [step_request h.quiet h.idle hr, hd, State.takeRequest]

/-- What an idle block that does not own the bus holds in the fields that every operation moves and puts back. -/
theorem State.at_rest_eq (hq : s.seq = .idle) (hc : s.cur = none) (hb : s.busOwned = false) :
    s = { s with seq := .idle, cur := none, busOwned := false } := by
  rw [← hq, ← hc, ← hb]

/-- Settles O24. -/
theorem busWriteRuns : Obligations.BusWriteRuns := by
  intro data rest g s h hc hb h1 h5 hg
  let u := ((s.takeRequest rest).fillTx data).enter (.busWrite data) .acquire
  have hs : step s = .next u := h.step_eq.trans (exec_busWrite_accepted h.idle h1 h5)
  have hu : runSteps 3 u = .next (u.transferred (.busWrite data) g).release.finish :=
    runSteps_write (.inl ⟨_, rfl⟩) h.quiet rfl rfl hg
  have ht : u.txBytes = data := txBytes_fillTx (s.takeRequest rest) data h5
  rw [runSteps_next hs, hu, State.transferred, ht]
  conv_rhs => rw [State.at_rest_eq h.idle hc hb]
  rfl

/-- A block right before the `RELEASE` of a requested BUS_WRITE_THEN_READ. -/
def State.rawReadTransferred (data : List Byte) (n : BitVec 5) (rest : List Request) (g : List Bool) (s : State) :
    State :=
  (((s.takeRequest rest).fillTx data).enter (.busWriteThenRead data n) .acquire).transferred
    (.busWriteThenRead data n) g

/-- BUS_WRITE_THEN_READ as a whole next state, in the terms of its last step. -/
theorem runSteps_busWriteThenRead {data : List Byte} {n : BitVec 5} (h : s.Requested (.busWriteThenRead data n) rest)
    (h1 : 1 ≤ data.length) (h5 : data.length ≤ 5) (hn1 : 1 ≤ n.toNat) (hn18 : n.toNat ≤ 18)
    (hg : s.grants = true :: g) :
    runSteps 4 s = .next (s.rawReadTransferred data n rest g).release.receive.finish := by
  let u := ((s.takeRequest rest).fillTx data).enter (.busWriteThenRead data n) .acquire
  let v := s.rawReadTransferred data n rest g
  have hs : step s = .next u := h.step_eq.trans (exec_busWriteThenRead_accepted h.idle h1 h5 hn1 hn18)
  have hu : runSteps 3 u = runSteps 1 v := runSteps_transferred 1 h.quiet rfl rfl rfl hg
  have hv : step v = .next v.release.receive.finish :=
    (step_current (s := v) h.quiet nofun nofun rfl).trans (exec_release_rawRead rfl rfl)
  rw [runSteps_next hs, hu, runSteps_next hv, runSteps_zero]

/-- Settles O25. -/
theorem busWriteThenReadRuns : Obligations.BusWriteThenReadRuns := by
  intro data n rest g s h h1 h5 hn1 hn18 hg
  have hb : (((s.takeRequest rest).fillTx data).enter (.busWriteThenRead data n) .acquire).txBytes = data :=
    txBytes_fillTx (s.takeRequest rest) data h5
  have hl := receive_rxLen_rawRead (s := (s.rawReadTransferred data n rest g).release) rfl
  refine ⟨_, runSteps_busWriteThenRead h h1 h5 hn1 hn18 hg, rfl, ?_⟩
  simp only [State.rawReadTransferred] at hl ⊢
  refine ⟨by simp, by simp, by simp, by simp, ?_, fun hx k b hk hb => ?_, by simp [hb, opReadLen], by simp⟩
  · rw [finish_rxLen]
    exact hl
  · rw [finish_rx]
    exact receive_get_received hx hk (by omega) hb

/-! ## The write-only commands -/

/-- Settles O26. -/
theorem startMeasurementRuns : Obligations.StartMeasurementRuns := by
  intro rest g s h hc hb hg
  let u : State := { s.takeRequest rest with cmd := 0x0010, cur := some .startMeasurement, seq := .encode }
  let v := u.encodeN.goto .acquire
  have hs : step s = .next u := h.step_eq.trans (exec_startMeasurement_idle h.idle)
  have hu : step u = .next v :=
    (step_current (s := u) h.quiet nofun nofun rfl).trans (exec_encode_plain (.inl rfl) rfl rfl)
  have hv : runSteps 3 v = .next (v.transferred .startMeasurement g).release.finish :=
    runSteps_write (.inr (.inl rfl)) h.quiet rfl rfl hg
  have hf : frameN 0x0010 = [0x00, 0x10] := (frames_eq 0 0).1
  have ht : v.txBytes = [0x00, 0x10] := (txBytes_fillTx u (frameN 0x0010) (by decide)).trans hf
  rw [runSteps_next hs, runSteps_next hu, hv, State.transferred, ht, ← hf]
  conv_rhs => rw [State.at_rest_eq h.idle hc hb]
  rfl

/-- Settles O27: the two commands differ in their code alone. -/
theorem argumentCommandsRun : Obligations.ArgumentCommandsRun := by
  intro i c1 c0 v rest g s hi h hc hb hg
  let u : State := { s.takeRequest rest with cmd := c1 ++ c0, arg := v, cur := some i, seq := .encode }
  let w := u.encodeA.goto .acquire
  have harg : (∃ a, i = .setInterval a) ∨ (∃ a, i = .calibrate a) := by
    obtain ⟨rfl, -⟩ | ⟨rfl, -⟩ := hi
    · exact .inl ⟨v, rfl⟩
    · exact .inr ⟨v, rfl⟩
  have hlen : opReadLen i = 0 := by obtain ⟨a, rfl⟩ | ⟨a, rfl⟩ := harg <;> rfl
  have hs : step s = .next u := by
    rw [h.step_eq]
    obtain ⟨rfl, rfl, rfl⟩ | ⟨rfl, rfl, rfl⟩ := hi
    · exact exec_setInterval_idle v h.idle
    · exact exec_calibrate_idle v h.idle
  have hu : step u = .next w :=
    (step_current (s := u) h.quiet nofun nofun rfl).trans (exec_encode_arg harg rfl rfl)
  have hw : runSteps 3 w = .next (w.transferred i g).release.finish :=
    runSteps_write (.inr (.inr harg)) h.quiet rfl rfl hg
  have hf : frameA (c1 ++ c0) v (argCrc v) = [c1, c0, hiByte v, loByte v, crc8 [hiByte v, loByte v]] := by
    have h1 : hiByte (c1 ++ c0) = c1 := hiByte_joinBytes c1 c0
    have h0 : loByte (c1 ++ c0) = c0 := loByte_joinBytes c1 c0
    rw [frameA, h1, h0, argCrc, argBytes]
  have ht : w.txBytes = [c1, c0, hiByte v, loByte v, crc8 [hiByte v, loByte v]] :=
    (txBytes_fillTx u (frameA (c1 ++ c0) v (argCrc v)) (by simp)).trans hf
  rw [runSteps_next hs, runSteps_next hu, hw, State.transferred, ht, hlen, ← hf]
  conv_rhs => rw [State.at_rest_eq h.idle hc hb]
  rfl

/-! ## READ_MEASUREMENTS -/

/-- A block right before the `RELEASE` of a requested READ_MEASUREMENTS. -/
def State.readTransferred (rest : List Request) (g : List Bool) (s : State) : State :=
  (({ s.takeRequest rest with cmd := 0x0300, cur := some .readMeasurements, seq := .encode } : State).encodeN.goto
    .acquire).transferred .readMeasurements g

/-- READ_MEASUREMENTS reaches `RELEASE` in four steps. -/
theorem runSteps_readTransferred (n : Nat) (h : s.Requested .readMeasurements rest) (hg : s.grants = true :: g) :
    runSteps (n + 4) s = runSteps n (s.readTransferred rest g) := by
  let u : State := { s.takeRequest rest with cmd := 0x0300, cur := some .readMeasurements, seq := .encode }
  have hs : step s = .next u := h.step_eq.trans (exec_readMeasurements_idle h.idle)
  have hu : step u = .next (u.encodeN.goto .acquire) :=
    (step_current (s := u) h.quiet nofun nofun rfl).trans (exec_encode_plain (.inr rfl) rfl rfl)
  have hv : runSteps (n + 2) (u.encodeN.goto .acquire) = runSteps n (s.readTransferred rest g) :=
    runSteps_transferred n h.quiet rfl rfl rfl hg
  rw [runSteps_next hs, runSteps_next hu, hv]

section
variable (s rest g)

@[simp] theorem readTransferred_cmd : (s.readTransferred rest g).cmd = 0x0300 := rfl
@[simp] theorem readTransferred_arg : (s.readTransferred rest g).arg = s.arg := rfl
@[simp] theorem readTransferred_crc : (s.readTransferred rest g).crc = s.crc := rfl
@[simp] theorem readTransferred_txLen : (s.readTransferred rest g).txLen = 2 := rfl
@[simp] theorem readTransferred_fault : (s.readTransferred rest g).fault = s.fault := rfl
@[simp] theorem readTransferred_fRes : (s.readTransferred rest g).fRes = s.fRes := rfl
@[simp] theorem readTransferred_cur : (s.readTransferred rest g).cur = some .readMeasurements := rfl
@[simp] theorem readTransferred_requests : (s.readTransferred rest g).requests = rest := rfl
@[simp] theorem readTransferred_inputs : (s.readTransferred rest g).inputs = s.inputs := rfl
@[simp] theorem readTransferred_xfer : (s.readTransferred rest g).xfer =
    { completed := s.answer.completed, rxdata := s.answer.rxdata } := rfl
@[simp] theorem readTransferred_release_readCount : (s.readTransferred rest g).release.readCount = 18 := rfl

theorem frameN_readMeasurements : frameN 0x0300 = [0x03, 0x00] := (frames_eq 0 0).2.1

@[simp] theorem readTransferred_tx : (s.readTransferred rest g).tx = s.tx.write 0 [0x03, 0x00] :=
  congrArg (s.tx.write 0) frameN_readMeasurements

@[simp] theorem readTransferred_busLog : (s.readTransferred rest g).busLog =
    s.busLog ++ [transaction [0x03, 0x00] 18 s.answer] := by
  have hb : (({ s.takeRequest rest with cmd := 0x0300, cur := some .readMeasurements, seq := .encode } :
      State).encodeN.goto .acquire).txBytes = [0x03, 0x00] :=
    (txBytes_fillTx _ (frameN 0x0300) (by simp)).trans frameN_readMeasurements
  rw [State.readTransferred, transferred_busLog, hb]
  rfl

end

/-- A failed READ_MEASUREMENTS as a whole next state. -/
theorem runSteps_readFailed (h : s.Requested .readMeasurements rest) (hg : s.grants = true :: g)
    (hx : s.answer.completed = false) :
    runSteps 5 s = .next (s.readTransferred rest g).release.receive.dropSample.finish := by
  have hr : step (s.readTransferred rest g) = .next (s.readTransferred rest g).release.receive.dropSample.finish :=
    (step_current (s := s.readTransferred rest g) h.quiet nofun nofun rfl).trans (exec_release_readFailed rfl rfl hx)
  rw [runSteps_readTransferred 1 h hg, runSteps_next hr, runSteps_zero]

/-- A successful READ_MEASUREMENTS as a whole next state, given the three floats of its response. -/
theorem runSteps_readDone {c t' h' : Word32} (h : s.Requested .readMeasurements rest) (hg : s.grants = true :: g)
    (hx : s.answer.completed = true)
    (hd : ((s.readTransferred rest g).release.receive.goto .decode).decodeSample = some (c, t', h')) :
    runSteps 6 s =
      .next (((s.readTransferred rest g).release.receive.goto .decode).storeSample c t' h').finish := by
  let u := (s.readTransferred rest g).release.receive.goto .decode
  have hc : u.cur = some .readMeasurements := by simp [u]
  have hr : step (s.readTransferred rest g) = .next u :=
    (step_current (s := s.readTransferred rest g) h.quiet nofun nofun rfl).trans (exec_release_readDone rfl rfl hx)
  have hu : step u = .next (u.storeSample c t' h').finish :=
    (step_current (by simp [u, h.quiet]) (by simp [u]) (by simp [u]) hc).trans (exec_decode hc rfl hd)
  rw [runSteps_readTransferred 2 h hg, runSteps_next hr, runSteps_next hu, runSteps_zero]

/-- Settles O29. -/
theorem failedReadMeasurementsRuns : Obligations.FailedReadMeasurementsRuns :=
  fun _ _ _ h hg hx => ⟨_, runSteps_readFailed h hg hx, by simp [hx]⟩

/-- Settles O28. -/
theorem readMeasurementsRuns : Obligations.ReadMeasurementsRuns := by
  intro b rest g s h hg hx hb
  let u := (s.readTransferred rest g).release.receive.goto .decode
  have hl : u.rxLen = 18 := by simp [u, hx]
  have hrx (k : Nat) (hk : k < 18) : u.rx.get k = some (b k) := by
    rw [goto_rx]
    exact receive_get_received (s := (s.readTransferred rest g).release) hx hk hk (hb k hk)
  exact ⟨_, runSteps_readDone h hg hx (decodeSample_of_bytes hl hrx), by simpa [hx, u] using hrx⟩

/-! ## The commands as compositions -/

/-- CRC8 of two bytes and then BUS_WRITE: five steps, the second operation's final state with the first one's `crc`. -/
theorem runSteps_crc8_busWrite {p : Ports} {a data : List Byte} (hi : s.inputs = []) (hq : s.seq = .idle)
    (hc : s.cur = none) (hb : s.busOwned = false) (hg : s.grants = true :: g) (h1 : 1 ≤ data.length)
    (h5 : data.length ≤ 5) :
    runSteps 5 { s with
        requests := ⟨0b000#3, { p with data := a }⟩ :: ⟨0b010#3, { p with data := data }⟩ :: rest } =
      .next { s with
        crc := crc8 a, tx := s.tx.write 0 data, txLen := BitVec.ofNat 3 data.length, ok := s.answer.completed
        requests := rest, grants := g, transfers := s.transfers.tail, draws := s.draws + 1
        xfer := { completed := s.answer.completed, rxdata := s.answer.rxdata }
        busLog := s.busLog ++ [transaction data 0 s.answer] } := by
  let second : List Request := ⟨0b010#3, { p with data := data }⟩ :: rest
  let u : State := { s with requests := ⟨0b000#3, { p with data := a }⟩ :: second }
  let w : State := { s with crc := crc8 a, requests := second }
  have hu : step u = .next w := by
    rw [step_request (s := u) hi hq rfl, decodeRequest_crc8]
    exact exec_crc8 a hq
  have hw : w.Requested (.busWrite data) rest := ⟨hi, hq, _, rfl, decodeRequest_busWrite _⟩
  exact (runSteps_next hu).trans (busWriteRuns data rest g w hw hc hb h1 h5 hg)

/-- Settles O30: the whole final states of the commands and of the primitives, side by side. -/
theorem writeCommandsArePrimitiveCompositions : Obligations.WriteCommandsArePrimitiveCompositions := by
  intro v rest g s p hi hq hc hb hg frame asPrimitives
  have prim (hi' lo : Byte) := runSteps_crc8_busWrite (rest := rest) (p := p) (a := [hiByte v, loByte v])
    (data := frame hi' lo) hi hq hc hb hg (by simp [frame]) (by simp [frame])
  have run {i : Instr} {r : Request} (hr : decodeRequest r = i) :
      ({ s with requests := r :: rest } : State).Requested i rest := ⟨hi, hq, r, rfl, hr⟩
  have write := busWriteRuns [0x00, 0x10] rest g _ (run (decodeRequest_busWrite { p with data := [0x00, 0x10] })) hc hb
    (by decide) (by decide) hg
  refine ⟨⟨_, ?_, prim 0x46 0x00⟩, ⟨_, ?_, prim 0x52 0x04⟩, ⟨_, ?_, write⟩⟩
  · exact argumentCommandsRun _ 0x46 0x00 v rest g _ (.inl ⟨rfl, rfl, rfl⟩)
      (run (decodeRequest_setInterval { p with arg := v })) hc hb hg
  · exact argumentCommandsRun _ 0x52 0x04 v rest g _ (.inr ⟨rfl, rfl, rfl⟩)
      (run (decodeRequest_calibrate { p with arg := v })) hc hb hg
  · exact startMeasurementRuns rest g _ (run (decodeRequest_startMeasurement p)) hc hb hg

/-- Before `RELEASE` READ_MEASUREMENTS differs from BUS_WRITE_THEN_READ of its frame in the latch and the operation
alone. -/
theorem readTransferred_eq (rest : List Request) (g : List Bool) (s : State) :
    s.readTransferred rest g =
      { s.rawReadTransferred [0x03, 0x00] 18 rest g with cmd := 0x0300, cur := some .readMeasurements } := by
  rw [← frameN_readMeasurements]
  rfl

/-- A read of the same number of bytes leaves the same in `RX`, whatever the operation. -/
theorem receive_with (code : Half) (h : opReadLen i = s.readCount) :
    ({ s with cmd := code, cur := some i } : State).receive = { s.receive with cmd := code, cur := some i } := by
  have hn : ({ s with cmd := code, cur := some i } : State).readCount = s.readCount := h
  simp only [State.receive, hn]
  rfl

/-- The same of the whole of what the two leave at the end of `RELEASE`. -/
theorem readTransferred_receive (rest : List Request) (g : List Bool) (s : State) :
    (s.readTransferred rest g).release.receive =
      { (s.rawReadTransferred [0x03, 0x00] 18 rest g).release.receive with
        cmd := 0x0300, cur := some .readMeasurements } := by
  rw [readTransferred_eq]
  exact receive_with (s := (s.rawReadTransferred [0x03, 0x00] 18 rest g).release) 0x0300 rfl

theorem decodeSample_of_decodeAt {c t' h' : Word32} (h0 : s.decodeAt 0 = some c) (h6 : s.decodeAt 6 = some t')
    (h12 : s.decodeAt 12 = some h') : s.decodeSample = some (c, t', h') := by
  simp only [State.decodeSample, Config.params, h0, h6, h12]

/-- After a completed read of eighteen bytes every decode up to offset 14 has a result. -/
theorem decodeAt_received {off : Nat} (hx : s.xfer.completed = true) (hn : s.readCount = 18) (h : off + 4 ≤ 18) :
    ∃ v, s.receive.decodeAt off = some v := by
  have hl : s.receive.rxLen.toNat = 18 := by
    rw [receive_rxLen, if_pos hx, hn]
    rfl
  exact Option.isSome_iff_exists.1 (decodeAt_isSome (fun a ha => receive_get_isSome (by omega)) (by omega))

/-- Settles O31. -/
theorem readCommandIsPrimitiveComposition : Obligations.ReadCommandIsPrimitiveComposition := by
  intro rest g s p hi hq hc hb hg command primitive
  have hcommand : command.Requested .readMeasurements rest := ⟨hi, hq, _, rfl, decodeRequest_readMeasurements p⟩
  have hprimitive : primitive.Requested (.busWriteThenRead [0x03, 0x00] 18) rest :=
    ⟨hi, hq, _, rfl, decodeRequest_busWriteThenRead { p with data := [0x03, 0x00], readLen := 18 }⟩
  have decoded {off : Nat} (hx : s.answer.completed = true) :=
    decodeAt_received (s := (primitive.rawReadTransferred [0x03, 0x00] 18 rest g).release) (off := off) hx rfl
  have run := runSteps_busWriteThenRead hprimitive (by decide) (by decide) (by decide) (by decide) hg
  have same : (command.readTransferred rest g).release.receive =
      { (primitive.rawReadTransferred [0x03, 0x00] 18 rest g).release.receive with
        cmd := 0x0300, cur := some .readMeasurements } := readTransferred_receive rest g command
  generalize (primitive.rawReadTransferred [0x03, 0x00] 18 rest g).release.receive = r at decoded run same
  refine ⟨fun hx => ?_, fun hx => ?_⟩
  · obtain ⟨c, h0⟩ := decoded (off := 0) hx (by decide)
    obtain ⟨t, h6⟩ := decoded (off := 6) hx (by decide)
    obtain ⟨h, h12⟩ := decoded (off := 12) hx (by decide)
    have hd : ((command.readTransferred rest g).release.receive.goto .decode).decodeSample = some (c, t, h) := by
      rw [same]
      exact decodeSample_of_decodeAt h0 h6 h12
    refine ⟨_, _, runSteps_readDone hcommand hg hx hd, run, ?_, exec_decodeFloat_some rfl h0,
      exec_decodeFloat_some rfl h6, exec_decodeFloat_some rfl h12⟩
    rw [same]
    rfl
  · refine ⟨_, _, runSteps_readFailed hcommand hg hx, run, ?_⟩
    rw [same]
    rfl

end Sys2Proof.Machine
end

section
/-! The host (spec/45_host_polling_worker.md): what can happen to the worker at a step, the invariant that every such
change keeps, the moves of the loop thread and the calls of the consumer. -/

namespace Sys2Proof.Machine

variable {s t : State} {w w' : Worker}

/-! ## Changes of the worker -/

/-- What can happen to a worker at a step: a call of the consumer, or a move of its loop thread. -/
inductive Worker.Change (w : Worker) : Worker → Prop where
  | same : Worker.Change w w
  | start (h : w.started = false) : Worker.Change w w.start
  | stop (h : w.running = true) : Worker.Change w w.stop
  | request (ppm : Half) : Worker.Change w (w.requestCalibration ppm)
  /-- The thread goes on to another place. -/
  | goOn {p : WorkerPos} (h : w.pos ≠ .stopped) (hp : p ≠ .stopped) : Worker.Change w (w.at p)
  | exit (h : w.running = false) : Worker.Change w w.exit
  | copyOut (x : Sample) (h : w.pos ≠ .stopped) :
      Worker.Change w (({ w with reading := x } : Worker).at .publish)
  | publish (h : w.pos ≠ .stopped) : Worker.Change w (w.publish.at .calibrate)
  | calibrate (h : w.pos ≠ .stopped) :
      Worker.Change w (({ w with lateRequest := false } : Worker).at .clearPending)
  | clearPending (keep : Bool) (h : w.pos ≠ .stopped) : Worker.Change w ((w.clearPending keep).at .sleep)

/-- A move of the loop thread. -/
theorem workerStep_change (s : State) (w : Worker) (h : s.worker = some w) :
    ∃ w', (s.workerStep w).worker = some w' ∧ w.Change w' := by
  unfold State.workerStep
  split
  · exact ⟨w, h, .same⟩
  · next hp => exact ⟨_, rfl, .goOn (by simp [hp]) (by decide)⟩
  · next hp => exact ⟨_, rfl, .goOn (by simp [hp]) (by decide)⟩
  · next hp =>
    cases hr : w.running with
    | true => exact ⟨_, rfl, .goOn (by simp [hp]) (by decide)⟩
    | false => exact ⟨_, rfl, .exit hr⟩
  · next hp => exact ⟨_, rfl, .goOn (by simp [hp]) (by decide)⟩
  · next hp => exact ⟨_, rfl, .copyOut _ (by simp [hp])⟩
  · next hp => exact ⟨_, rfl, .publish (by simp [hp])⟩
  · next hp =>
    split
    · exact ⟨_, rfl, .goOn (by simp [hp]) (by decide)⟩
    · exact ⟨_, rfl, .calibrate (by simp [hp])⟩
  · next hp => exact ⟨_, rfl, .clearPending _ (by simp [hp])⟩
  · next hp => exact ⟨_, rfl, .goOn (by simp [hp]) (by decide)⟩

/-- A call of the consumer on a worker. -/
theorem callWorker_change {c : ConsumerCall} (hw : s.worker = some w) (h : s.callWorker c w = .next t) :
    ∃ w', t.worker = some w' ∧ w.Change w' := by
  cases c with
  | construct => cases h
  | start =>
    simp only [State.callWorker] at h
    split at h
    · split at h <;> cases h
    · next hs =>
      cases h
      exact ⟨_, rfl, .start (by simpa using hs)⟩
  | stop =>
    simp only [State.callWorker] at h
    split at h <;> cases h
    next hr => exact ⟨_, rfl, .stop hr⟩
  | requestCalibration ppm => cases h; exact ⟨_, rfl, .request ppm⟩
  | hasUnreadSample => cases h; exact ⟨w, hw, .same⟩
  | takeSample => cases h; exact ⟨w, hw, .same⟩
  | logSample => cases h; exact ⟨w, hw, .same⟩

/-- What can happen to the worker of the machine at a step: there is none, one is constructed, or the one there is
changes. -/
inductive WorkerChange : Option Worker → Option Worker → Prop where
  | absent : WorkerChange none none
  | constructed {ms : Nat} (h : legalInterval ms = true) : WorkerChange none (some (newWorker ms))
  | changed {w w' : Worker} (h : w.Change w') : WorkerChange (some w) (some w')

theorem WorkerChange.refl (o : Option Worker) : WorkerChange o o := by
  cases o with
  | none => exact .absent
  | some w => exact .changed .same

/-- A move of the machine touches the worker only as a move of the loop thread. -/
theorem advance_worker (h : s.advance = .next t) : WorkerChange s.worker t.worker := by
  have kept {i : Instr} {u : State} (hu : u.worker = s.worker) (hm : Move i u t) : WorkerChange s.worker t.worker := by
    rw [hm.outside_eq.1, hu]
    exact .refl _
  obtain ⟨-, r, rest, -, hm⟩ | ⟨-, -, rfl⟩ | ⟨-, i, -, hm⟩ | ⟨-, i, -, hm⟩ := advance_move h
  · exact kept (u := { s with requests := rest }) rfl hm
  · unfold State.hostStep
    split
    · next w hw =>
      obtain ⟨w', hw', hc⟩ := workerStep_change s w hw
      rw [hw, hw']
      exact .changed hc
    · exact .refl _
  · exact kept rfl hm
  · exact kept rfl hm

/-- A consumer call constructs a worker where there is none, or is a call on the one there is. -/
theorem consumerCall_worker {c : ConsumerCall} (h : s.consumerCall c = .next t) : WorkerChange s.worker t.worker := by
  unfold State.consumerCall at h
  split at h
  · next w hw =>
    obtain ⟨w', hw', hc⟩ := callWorker_change hw h
    rw [hw, hw']
    exact .changed hc
  · next hw =>
    rw [hw]
    split at h
    · split at h <;> cases h
      next hl => exact .constructed hl
    all_goals cases h

/-- Whatever happens at a step, the worker changes in one of these ways. -/
theorem step_worker (h : step s = .next t) : WorkerChange s.worker t.worker := by
  obtain ⟨rest, -, h⟩ | ⟨c, rest, -, -, h⟩ | ⟨rest, -, h⟩ | ⟨rest, -, h⟩ | h := step_cases h
  · cases h
    exact .refl _
  · exact consumerCall_worker (s := { s with inputs := rest }) h.symm
  · unfold State.otherTraffic at h
    split at h <;> cases h
    exact .refl _
  · exact advance_worker (s := { s with inputs := rest }) h.symm
  · exact advance_worker h.symm

/-! ## What every change keeps -/

theorem newWorker_inv {ms : Nat} (h : legalInterval ms = true) : (newWorker ms).Inv where
  published := nofun
  initial _ := rfl
  interval := h
  thread := nofun
  started h := absurd rfl h
  waiting := nofun

/-- A worker that has published its reading, or kept the previous Sample. -/
theorem Worker.publish_eq (w : Worker) :
    (publishable w.reading = true ∧ w.publish = { w with latestSample := w.reading, hasUnread := true }) ∨
    w.publish = w := by
  unfold Worker.publish
  split
  · exact .inl ⟨‹_›, rfl⟩
  · exact .inr rfl

theorem Worker.Change.keeps_inv (h : w.Change w') (hw : w.Inv) : w'.Inv := by
  obtain ⟨hpub, hinit, hint, hthread, hstarted, hwait⟩ := hw
  cases h with
  | same => exact ⟨hpub, hinit, hint, hthread, hstarted, hwait⟩
  | start h =>
    have hp : w.stopWaiting = false := by
      rw [← Bool.not_eq_true]
      intro hs
      simp [hstarted (hwait hs).2] at h
    exact ⟨hpub, hinit, hint, nofun, fun _ => rfl, by simp [Worker.start, hp]⟩
  | stop h => exact ⟨hpub, hinit, hint, nofun, hstarted, fun _ => ⟨rfl, hthread h⟩⟩
  | request ppm => exact ⟨hpub, hinit, hint, hthread, hstarted, hwait⟩
  | goOn h hp => exact ⟨hpub, hinit, hint, fun _ => hp, fun _ => hstarted h, fun hs => ⟨(hwait hs).1, hp⟩⟩
  | exit h => exact ⟨hpub, hinit, hint, by simp [Worker.exit, h], nofun, nofun⟩
  | copyOut x h => exact ⟨hpub, hinit, hint, nofun, fun _ => hstarted h, fun hs => ⟨(hwait hs).1, nofun⟩⟩
  | publish h =>
    obtain ⟨hr, he⟩ | he := w.publish_eq <;> rw [he]
    · exact ⟨fun _ => hr, nofun, hint, nofun, fun _ => hstarted h, fun hs => ⟨(hwait hs).1, nofun⟩⟩
    · exact ⟨hpub, hinit, hint, nofun, fun _ => hstarted h, fun hs => ⟨(hwait hs).1, nofun⟩⟩
  | calibrate h => exact ⟨hpub, hinit, hint, nofun, fun _ => hstarted h, fun hs => ⟨(hwait hs).1, nofun⟩⟩
  | clearPending keep h => exact ⟨hpub, hinit, hint, nofun, fun _ => hstarted h, fun hs => ⟨(hwait hs).1, nofun⟩⟩

/-- Settles O52. -/
theorem stepKeepsHostInvariant : Obligations.StepKeepsHostInvariant := by
  intro s t hinv h u hu
  have hc := step_worker h
  rw [hu] at hc
  generalize hs : s.worker = o at hc
  cases hc with
  | constructed hl => exact newWorker_inv hl
  | changed hc => exact hc.keeps_inv (hinv _ hs)

theorem Worker.Change.keeps_published (h : w.Change w') :
    w'.intervalMs = w.intervalMs ∧ (w.hasUnread = true → w'.hasUnread = true) := by
  cases h with
  | publish =>
    obtain ⟨-, he⟩ | he := w.publish_eq <;> rw [he]
    · exact ⟨rfl, fun _ => rfl⟩
    · exact ⟨rfl, id⟩
  | _ => exact ⟨rfl, id⟩

/-- Settles O53. -/
theorem hasUnreadNeverCleared : Obligations.HasUnreadNeverCleared := by
  intro w s t hw h
  have hc := step_worker h
  rw [hw] at hc
  generalize ht : t.worker = o at hc
  cases hc with
  | changed hc => exact ⟨_, rfl, hc.keeps_published⟩

/-! ## The loop thread -/

/-- In an idle block with nothing requested a quiet step is a move of the loop thread. -/
theorem step_worker_moves (hi : s.inputs = []) (hq : s.seq = .idle) (hr : s.requests = []) (hw : s.worker = some w) :
    step s = .next (s.workerStep w) := by
  rw [step_quiet hi]
  simp only [State.advance, hq, State.runRequest, hr, State.hostStep, hw]

/-- Settles O54. -/
theorem workerStartsUpInOrder : Obligations.WorkerStartsUpInOrder := by
  intro w s hi hq hr hw
  rw [step_worker_moves hi hq hr hw]
  refine ⟨fun hp => ⟨⟨0b100#3, Ports.least⟩, decodeRequest_startMeasurement _, ?_⟩,
    fun hp => ⟨⟨0b101#3, { Ports.least with arg := w.intervalSeconds }⟩, decodeRequest_setInterval _, ?_⟩⟩
  · simp only [State.workerStep, hp]
    rfl
  · simp only [State.workerStep, hp]
    rfl

/-- Settles O55. -/
theorem workerLoopInOrder : Obligations.WorkerLoopInOrder := by
  intro w s hi hq hr hw
  rw [step_worker_moves hi hq hr hw]
  refine ⟨fun hp hrun => ?_, fun hp hrun => ?_, fun hp => ?_, fun hp => ?_, fun hp hv hg => ?_, fun hp hn => ?_,
    fun hp hc => ?_, fun hp hc => ?_, fun hp hl => ?_, fun hp => ?_⟩
  all_goals simp only [State.workerStep, hp]
  · rw [if_pos hrun]
    rfl
  · rw [if_neg (by simp [hrun])]
    rfl
  · exact ⟨⟨0b111#3, Ports.least⟩, decodeRequest_readMeasurements _, rfl⟩
  · exact ⟨s.sampleNow, rfl, rfl, rfl, rfl, rfl⟩
  · simp only [Worker.publish, publishable, hv, hg]
    rfl
  · rw [Worker.publish, if_neg (by simpa [publishable] using hn)]
    rfl
  · rw [if_pos hc]
    rfl
  · rw [if_neg hc]
    exact ⟨⟨0b110#3, { Ports.least with arg := w.pendingCalibration }⟩, decodeRequest_calibrate _, rfl⟩
  · simp only [Worker.clearPending, hl]
    rfl
  · rfl

/-- Settles O56. -/
theorem stoppedWorkerIsSilent : Obligations.StoppedWorkerIsSilent := by
  intro n w s hi hq hr hw hp
  have silent : step s = .next s := by
    rw [step_worker_moves hi hq hr hw]
    simp only [State.workerStep, hp]
  induction n with
  | zero => rfl
  | succ n ih => rw [runSteps_next silent, ih]

/-! ## The consumer -/

/-- Settles O57. -/
theorem consumerNeverTouchesBlock : Obligations.ConsumerNeverTouchesBlock := by
  intro c s t h
  obtain ⟨w, k, rfl⟩ := consumerCall_next h
  rfl

/-- Settles O59. -/
theorem workerConstruction : Obligations.WorkerConstruction := by
  intro ms s hw
  have call : s.consumerCall (.construct ms) =
      if legalInterval ms then .next (s.setWorker (newWorker ms)) else .refused .badInterval := by
    simp only [State.consumerCall, hw]
  rw [call]
  refine ⟨fun h0 h1 => ?_, fun h => ?_⟩
  · rw [if_pos (by simp [legalInterval, h0, h1])]
    exact ⟨_, rfl, rfl, rfl, rfl, rfl, rfl, rfl⟩
  · rw [if_neg]
    simp only [legalInterval, Bool.and_eq_true, decide_eq_true_eq]
    omega

theorem consumerCall_of_worker (c : ConsumerCall) (hw : s.worker = some w) : s.consumerCall c = s.callWorker c w := by
  simp only [State.consumerCall, hw]

/-- When a Sample is one to forward (R164): published, or the placeholder where that is logged, and of another timestamp
than the last record's. -/
theorem forwards_iff (w : Worker) (c : Consumer) : c.forwards w = true ↔
    (w.hasUnread = true ∨ Config.logsPlaceholder = true) ∧
      ∀ r, c.log.getLast? = some r → r.timestamp ≠ w.latestSample.timestamp := by
  rw [Consumer.forwards, Bool.and_eq_true, Bool.or_eq_true, decide_eq_true_iff]
  cases c.log.getLast? with
  | none => simp
  | some r => simp

/-- An observation writes the log alone. -/
theorem consumer_forward_eq (w : Worker) (c : Consumer) : c.forward w = { c with log := (c.forward w).log } := by
  unfold Consumer.forward
  split <;> rfl

theorem consumer_forward_log_of (w : Worker) (c : Consumer) :
    (c.forwards w = true → (c.forward w).log = c.log ++ [logRecord w.latestSample]) ∧
    (c.forwards w ≠ true → (c.forward w).log = c.log) := by
  refine ⟨fun h => ?_, fun h => ?_⟩ <;> simp [consumer_forward_log, h]

/-- While a caller of `stop()` waits, every call but a calibration request waits (R144, R145). -/
theorem callerBlocked_iff (c : ConsumerCall) (hw : s.worker = some w) :
    s.callerBlocked c = true ↔ w.stopWaiting = true ∧ ∀ p, c ≠ .requestCalibration p := by
  simp only [State.callerBlocked, hw]
  cases c <;> simp

theorem step_call {c : ConsumerCall} {rest : List Input} (hi : s.inputs = .call c :: rest) :
    step s = if s.callerBlocked c then s.advance else ({ s with inputs := rest } : State).consumerCall c := by
  simp only [step, State.sequence, hi]

/-- No step but a call writes the consumer. -/
theorem step_consumer_eq (hn : ∀ c rest, s.inputs ≠ .call c :: rest) (h : step s = .next t) :
    t.consumer = s.consumer := by
  obtain ⟨rest, -, h⟩ | ⟨c, rest, hi, -⟩ | ⟨rest, -, h⟩ | ⟨rest, -, h⟩ | h := step_cases h
  · cases h
    rfl
  · exact absurd hi (hn c rest)
  · unfold State.otherTraffic at h
    split at h <;> cases h
    rfl
  · exact (advance_outside h.symm).2
  · exact (advance_outside h.symm).2

/-- Settles O58. -/
theorem consumerCalls : Obligations.ConsumerCalls := by
  intro w s hw
  have call (c : ConsumerCall) := consumerCall_of_worker c hw
  have log := consumer_forward_log_of w s.consumer
  simp only [call, State.callWorker]
  refine ⟨fun _ => trivial, fun hs => ?_, fun hs hr => ?_, fun hs hr => ?_, fun hr => ?_, fun hr => ?_, fun _ => rfl,
    fun p q t ht => ?_, rfl, ⟨(s.consumer.forward w).log, ?_, ?_, ?_, ?_⟩, fun c rest hi hs hc => ?_,
    fun c rest hi hs => ?_, fun t hn h => step_consumer_eq hn h⟩
  · rw [if_neg (by simp [hs])]
    rfl
  · rw [if_pos hs, if_pos hr]
  · rw [if_pos hs, if_neg (by simp [hr])]
  · rw [if_pos hr]
    rfl
  · rw [if_neg (by simp [hr])]
  · cases ht
    exact ⟨_, _, consumerCall_of_worker _ rfl, rfl, rfl⟩
  · rw [State.setAnswer, forward_consumer, consumer_forward_eq]
    rfl
  · rw [State.forward, consumer_forward_eq]
  · exact fun h => log.1 ((forwards_iff w s.consumer).2 h)
  · exact fun h => log.2 fun hf => h ((forwards_iff w s.consumer).1 hf)
  · have hb : step s = s.advance := by rw [step_call hi, if_pos ((callerBlocked_iff c hw).2 ⟨hs, hc⟩)]
    exact ⟨hb, fun t h => advance_outside (hb.symm.trans h)⟩
  · rw [step_call hi, if_neg]
    rw [callerBlocked_iff c hw]
    rintro ⟨hw', hc⟩
    obtain hs | ⟨p, rfl⟩ := hs
    · simp [hs] at hw'
    · exact hc p rfl

end Sys2Proof.Machine
end
